-- ==== Sys2Proof/Word.lean ====
section
/-! DEFINITION. The word types of the part: bytes on the wire and decimal digits in the store. -/

namespace Sys2Proof

/-- One byte of a frame, a report or a stored record. -/
abbrev Byte := BitVec 8

/-- One cell of a digit string. A cell can hold a code that is no decimal digit, which is what the
check of R16 repairs. -/
abbrev Digit := BitVec 4

/-- A string of `w` digit cells, most significant first (R4). -/
abbrev Digits (w : Nat) := Vector Digit w

/-- The byte of a number below 256. -/
abbrev byte (n : Nat) : Byte := BitVec.ofNat 8 n

end Sys2Proof
end

