-- ==== Sys2Proof/Machine/Records.lean ====
section
/-! DEFINITION. The named values and the records of the part's blocks, as the chapters' tables give
them. -/

namespace Sys2Proof.Machine

/-! ### Indexes -/

/-- P0, P1, P2. -/
abbrev PortId := Fin 3
/-- Q0 to Q7. -/
abbrev Quantity := Fin 8
/-- A register slot, 0 to 31. -/
abbrev RegSlot := Fin 32
/-- A pulse input, 0 to 7. -/
abbrev InputId := Fin 8
/-- D0 to D3. -/
abbrev ChannelId := Fin 4
/-- S0 to S3. -/
abbrev SnapId := Fin 4

/-! ### Named values -/

/-- The four tariffs; exactly one is active (R65). -/
inductive Tariff where
  | t1 | t2 | t3 | t4
  deriving DecidableEq, Repr, Inhabited

/-- COMMAND or LINES (R66). -/
inductive SourceMode where
  | command | lines
  deriving DecidableEq, Repr, Inhabited

/-- The four states of a register slot (R3, R5). -/
inductive RegState where
  | free | live | overflowed | suspect
  deriving DecidableEq, Repr, Inhabited

/-- What a register does at its capacity (R3, R10, R11). -/
inductive Policy where
  | wrap | stop
  deriving DecidableEq, Repr, Inhabited

/-- The part mode (R171). -/
inductive PartMode where
  | run | setup | enteringSetup
  deriving DecidableEq, Repr, Inhabited

/-- How CLOSEIN is used (R89). -/
inductive LineMode where
  | off | edge | level
  deriving DecidableEq, Repr, Inhabited

/-- The close state (R89). -/
inductive CloseState where
  | idle | requested | writing
  deriving DecidableEq, Repr, Inhabited

/-- The cause of a close (R89). -/
inductive Cause where
  | command | line | overdue | setup
  deriving DecidableEq, Repr, Inhabited

/-- The front-end states of a pulse input (R46). -/
inductive FrontEnd where
  | disabled | armed | verifying | latched | rearming
  deriving DecidableEq, Repr, Inhabited

/-- The three functions of the chain table (R135). -/
inductive ChainFn where
  | demand | overdue | inhibit
  deriving DecidableEq, Repr, Inhabited

/-- The tick a chain counts (R135). -/
inductive ChainTick where
  | second | minute
  deriving DecidableEq, Repr, Inhabited

/-- The chain states (R137). -/
inductive ChainState where
  | unassigned | stopped | running | held | expired
  deriving DecidableEq, Repr, Inhabited

/-- The supply states of R187, and the unpowered state of R192. -/
inductive SupplyState where
  | runSupply | drain | retain | restore | unpowered
  deriving DecidableEq, Repr, Inhabited

/-- The four requesters of the intake arbiter (R25). -/
inductive Requester where
  | port (p : PortId) | converter
  deriving DecidableEq, Repr, Inhabited

/-- The level the CLOSEIN recognizer has recognized (R95). -/
inductive LineLevel where
  | high | low | unknown
  deriving DecidableEq, Repr, Inhabited

/-- Every status of R164. -/
inductive Status where
  | ok | accepted | frameError | unknownCommand | badLength | badArgument | noRight | wrongMode
  | powerFail | queueFull | closeBusy | tooSoon | noSlot | slotLimit | notHeld | notFound | damaged
  | claimed | notClaimed | conflict | commitRefused | notReady
  deriving DecidableEq, Repr, Inhabited

/-- The notice kinds of R152. -/
inductive NoticeKind where
  | done | overflow | suspect | closed | tariff | peak | lease | pulse | restored
  deriving DecidableEq, Repr, Inhabited

/-- Where a register was found mismatched (R16, R166). -/
inductive FoundAt where
  | apply | read | capture | close | periodReset | edit | restore
  deriving DecidableEq, Repr, Inhabited

/-- The commands of the code table of R163, and a code that is not in it. -/
inductive CommandKind where
  | readStatus | readRegister | readLastResult | readNotices | setNoticeMask | portReset
  | postIncrement | setTariff | requestClose | readLog | readDemand | readPulseInput
  | snapshotOpen | snapshotRead | snapshotRenew | snapshotRelease
  | claimSetup | releaseSetup | defineQuantity | bindRegister | unbindRegister
  | setRegisterOptions | clearRegister | acceptRegister | definePulseInput | defineDemandChannel
  | defineChain | setTariffSource | setCloseOptions | setRights | clearLog | commit
  | reopen | readConfiguration
  | unknown (code : Byte)
  deriving DecidableEq, Repr, Inhabited

/-- The takers of a second or minute tick whose order a run can show (R133): the converter's marks, the
TSEL lines, the leases, the retain duration, the period duration, and the three chains. -/
inductive TickTaker where
  | marks | lines | leases | retainCount | duration | chain (f : ChainFn)
  deriving DecidableEq, Repr, Inhabited

/-- One block's part of a tick, which an event row may take ahead of the rest of the tick (log 4): a pulse
input or CLOSEIN at a sample tick, a slot's lease at a second tick, a chain at the tick it counts. -/
inductive TickPart where
  | input (n : InputId) | closein | lease (i : SnapId) | chain (t : ChainTick) (f : ChainFn)
  deriving DecidableEq, Repr, Inhabited

/-- What the store's signature pattern cell holds. The value of the fixed pattern is not given and
never shown, so the model keeps only whether the cell holds it. DESIGN CHOICE (log 15). -/
inductive SignaturePattern where
  | fixed | other
  deriving DecidableEq, Repr, Inhabited

/-! ### Records of the retained store -/

/-- A quantity record (R1). -/
structure QuantityRec where
  defined : Bool
  scale : Nat
  deriving DecidableEq, Repr, Inhabited

/-- A register record (R3). The selector, the digit count and the digit cells are wide enough to hold
what a disturbed store holds (R8, R16). -/
structure RegisterRec where
  state : RegState
  quantity : Quantity
  selector : BitVec 3
  digits : BitVec 4
  policy : Policy
  archive : Bool
  periodReset : Bool
  value : Digits 12
  residue : Digits 3
  wrapCount : BitVec 4
  check : BitVec 16
  deriving DecidableEq, Repr, Inhabited

/-- One port's record in the rights table (R174). -/
structure RightsRec where
  postMask : BitVec 8
  tariff : Bool
  close : Bool
  snap : Bool
  setup : Bool
  deriving DecidableEq, Repr, Inhabited

/-- A pulse input definition (R45). -/
structure PulseDef where
  enabled : Bool
  activeHigh : Bool
  pullUp : Bool
  spacing : Nat
  rearmTime : Nat
  quantity : Quantity
  mantissa : Nat
  fraction : Nat
  threshold : Nat
  deriving DecidableEq, Repr, Inhabited

/-- The retained running state of a pulse input (R46). -/
structure PulseCount where
  pending : Nat
  remainder : Nat
  noise : Nat
  reject : Nat
  saturated : Bool
  deriving DecidableEq, Repr, Inhabited

/-- The close options (R89). -/
structure CloseOptions where
  lineMode : LineMode
  overdueEnabled : Bool
  inhibitEnabled : Bool
  deriving DecidableEq, Repr, Inhabited

/-- One entry of a channel's maxima table (R76). -/
structure MaxEntry where
  maximum : Nat
  index : Nat
  deriving DecidableEq, Repr, Inhabited

/-- The retained part of a demand channel (R76). -/
structure Channel where
  quantity : Option Quantity
  maxima : Vector MaxEntry 4
  deriving DecidableEq, Repr, Inhabited

/-- An entry of the chain table (R135). Its assigned flag is `state ≠ unassigned`. -/
structure Chain where
  first : Nat
  length : Nat
  tick : ChainTick
  reload : Nat
  state : ChainState
  count : Nat
  deriving DecidableEq, Repr, Inhabited

/-- The chain table, one entry for each function (R135). -/
structure Chains where
  demand : Chain
  overdue : Chain
  inhibit : Chain
  deriving DecidableEq, Repr, Inhabited

/-- A record of the period log with its place in the index: its size and damaged marker (R107), and
its stored bytes (R170). -/
structure LogEntry where
  size : Nat
  damaged : Bool
  bytes : List Byte
  deriving DecidableEq, Repr, Inhabited

/-- The period log, oldest record first, with the total and the check word of its index (R107). -/
structure PeriodLog where
  entries : List LogEntry
  total : Nat
  check : BitVec 16
  deriving DecidableEq, Repr, Inhabited

/-- The store signature (R186). -/
structure Signature where
  pattern : SignaturePattern
  crc : BitVec 16
  deriving DecidableEq, Repr, Inhabited

/-- The retained store (R185, left column). -/
structure Store where
  quantities : Vector QuantityRec 8
  registers : Vector RegisterRec 32
  rights : Vector RightsRec 3
  pulseDefs : Vector PulseDef 8
  pulseCounts : Vector PulseCount 8
  sourceMode : SourceMode
  activeTariff : Tariff
  closeOptions : CloseOptions
  channels : Vector Channel 4
  intervalIndex : Nat
  log : PeriodLog
  periodNumber : BitVec 16
  periodDuration : Nat
  overdueHeld : Bool
  chains : Chains
  applicationCounter : BitVec 32
  mode : PartMode
  signature : Signature
  coldMarker : Bool
  deriving DecidableEq, Repr, Inhabited

/-! ### Records of the volatile state -/

/-- An increment record (R21). `source` is the model's own: it says who placed the entry, for the law
of R22, and no rule reads it (log 24). -/
structure Increment where
  quantity : Quantity
  amount : Nat
  stamp : Tariff
  source : Requester
  deriving DecidableEq, Repr, Inhabited

/-- A command as a frame brought it: its code and its argument bytes (R146). -/
structure Command where
  kind : CommandKind
  args : List Byte
  deriving DecidableEq, Repr, Inhabited

/-- A taken command that has no result yet, and whether its frame is still open, so that its response
can be sent (R147, R148). -/
structure Execution where
  command : Command
  frameOpen : Bool
  deriving DecidableEq, Repr, Inhabited

/-- A last-result record that is not empty (R150). -/
structure LastResult where
  code : Byte
  tag : Byte
  status : Status
  counter : BitVec 32
  deriving DecidableEq, Repr, Inhabited

/-- A notice: kind, subject and four detail bytes (R152, R166). -/
structure Notice where
  kind : NoticeKind
  subject : Byte
  detail0 : Byte
  detail1 : Byte
  detail2 : Byte
  detail3 : Byte
  deriving DecidableEq, Repr, Inhabited

/-- The answer to a frame: its status and data (R147), and the command it answers, none for a
FRAME_ERROR. -/
structure Response where
  kind : Option CommandKind
  status : Status
  data : List Byte
  deriving DecidableEq, Repr, Inhabited

/-- What the frame decoder drives on a port's data output (R145 to R147): nothing that answers a
frame, wait bytes, or a response. -/
inductive Wire where
  | quiet
  | waitBytes
  | response (r : Response)
  deriving DecidableEq, Repr, Inhabited

/-- The state of one port (R148, R150, R153, R155). -/
structure Port where
  execution : Option Execution
  waiting : Option Execution
  lastResult : Option LastResult
  notices : List Notice
  attn : Bool
  overrun : Bool
  mask : BitVec 6
  wire : Wire
  deriving DecidableEq, Repr, Inhabited

/-- A target of the application in flight: its slot and its record as committed when the application
began (R9). -/
structure Target where
  slot : RegSlot
  record : RegisterRec
  deriving DecidableEq, Repr, Inhabited

/-- The moment of a capture (R117). -/
structure Stamp where
  counter : BitVec 32
  period : BitVec 16
  tariff : Tariff
  deriving DecidableEq, Repr, Inhabited

/-- A captured entry (R117, R169). -/
structure CapturedEntry where
  slot : RegSlot
  state : RegState
  value : Digits 12
  residue : Digits 3
  wrapCount : BitVec 4
  deriving DecidableEq, Repr, Inhabited

/-- The engine's states and what each holds (R32). A capture in progress holds the slot it answers,
whether its request has been withdrawn (R121), the copies and their stamp. -/
inductive Engine where
  | halted
  | ready
  | applying (entry : Increment) (targets : List Target)
  | capturing (slot : SnapId) (withdrawn : Bool) (copies : List CapturedEntry) (stamp : Stamp)
  | closing
  deriving DecidableEq, Repr, Inhabited

/-- What an accepted OPEN writes into its slot (R120). -/
structure Opened where
  holder : PortId
  list : List RegSlot
  lease : Nat
  deriving DecidableEq, Repr, Inhabited

/-- A snapshot slot (R117). -/
inductive SnapSlot where
  | free
  | pending (o : Opened)
  | held (o : Opened) (remaining : Nat) (entries : List CapturedEntry) (stamp : Stamp)
  deriving DecidableEq, Repr, Inhabited

/-- The volatile running state of a pulse input (R46). `elapsed` counts the sample ticks since the
edge tick, which place the verification samples (R50). -/
structure InputRun where
  frontEnd : FrontEnd
  lastActive : Bool
  samplesTaken : Nat
  samplesActive : Nat
  elapsed : Nat
  rearmCount : Nat
  eligible : Bool
  served : Bool
  deriving DecidableEq, Repr, Inhabited

/-- The CLOSEIN recognizer (R95). -/
structure Recognizer where
  level : LineLevel
  runHigh : Bool
  runCount : Nat
  deriving DecidableEq, Repr, Inhabited

/-- The request being served (R89). -/
structure CurrentClose where
  cause : Cause
  requester : Option PortId
  deriving DecidableEq, Repr, Inhabited

/-- The record built when the engine took the close, and how many records were removed for it
(R103, R110). -/
structure Building where
  bytes : List Byte
  removed : Nat
  deriving DecidableEq, Repr, Inhabited

/-- The REOPEN requester, and whether its grant and DONE are still owed (R180, R182). -/
structure Reopen where
  requester : PortId
  owed : Bool
  deriving DecidableEq, Repr, Inhabited

/-- The prescaler's phase (R133): sample ticks since the last second tick, and second ticks since the last
minute tick. Where ticks fall together and the slower is taken first, the count of the faster stands at -1
until it follows. `early` is the model's own: the parts of the ticks to come that an event row has taken
(logs 4 and 5). -/
structure Prescaler where
  samples : Int
  seconds : Int
  early : List TickPart
  deriving DecidableEq, Repr, Inhabited

end Sys2Proof.Machine
end

