-- ==== Sys2Proof/Config.lean ====
section
/-! DEFINITION. The free values: constants with no body, so that nothing in Lean can know their
value. A claim that holds of the model holds whatever they are. -/

namespace Sys2Proof

/-- What the retained store holds after both supplies have been lost (R134, R186: "an unknown
state"). The argument is State.freeIndex, so that each loss gives a fresh store. Free value, DESIGN
CHOICE of form (log 16). -/
opaque Config.lostStore : Nat → Machine.Store

/-- The tag recorded for a POST INCREMENT whose argument length is wrong: R150 records the tag of a
POST INCREMENT, and no rule says what it is where the arguments do not hold one. Free value (log 11). -/
opaque Config.tagOfShortPost : List Byte → Byte

/-- Which decimal digit the arithmetic of a register takes a cell for that holds no decimal digit. A
register already SUSPECT is taken as it is (R16), so ACCEPT REGISTER may make it LIVE with such a cell, and
no rule says what the cell then counts. Free value (log 33). -/
opaque Config.digitOfCode : Digit → Fin 10

end Sys2Proof
end

