-- ==== Sys2Proof/Machine/Bytes.lean ====
section
/-! DEFINITION. Numbers as bytes, decimal digit strings, packed decimal, and the two check codes
(R4, R15, R145, R146, R161). -/

namespace Sys2Proof.Machine

/-- A number as `n` bytes, most significant first (R161). -/
def bigEndian : Nat → Nat → List Byte
  | 0, _ => []
  | n + 1, v => bigEndian n (v / 256) ++ [byte v]

/-- The number that bytes spell, most significant first (R161). -/
def fromBigEndian (bs : List Byte) : Nat :=
  bs.foldl (fun a b => a * 256 + b.toNat) 0

/-- The lowest `w` decimal digits of `n`, as a digit string with leading zeros (R4). -/
def digitsOfNat (w n : Nat) : Digits w :=
  Vector.ofFn fun i => BitVec.ofNat 4 (n / 10 ^ (w - 1 - i.val) % 10)

/-- Whether a cell holds a decimal digit. -/
def isDecimal (c : Digit) : Bool := decide (c.toNat ≤ 9)

/-- What a cell counts: its decimal digit (R4); a free value where it holds none, DESIGN CHOICE of form
(log 33). -/
def digitValue (c : Digit) : Nat := if isDecimal c then c.toNat else (Config.digitOfCode c).val

/-- The number a digit string spells (R4). -/
def digitsToNat {w : Nat} (d : Digits w) : Nat :=
  d.toList.foldl (fun a c => a * 10 + digitValue c) 0

/-- The lowest `n` cells of a digit string, with zeros before them: a number kept as `n` digits, with the
leading zeros that a report gives it (R4). -/
def lastDigits (n : Nat) {w : Nat} (d : Digits w) : Digits w :=
  Vector.ofFn fun i => if w ≤ i.val + n then d[i] else 0

/-- Every cell that holds no decimal digit is set to 9 (R16). -/
def sanitizeDigits {w : Nat} (d : Digits w) : Digits w :=
  d.map fun c => if isDecimal c then c else 9

/-- Two digits to a byte, most significant first (R161). -/
def packNibbles : List Digit → List Byte
  | a :: b :: rest => (a ++ b : BitVec 8) :: packNibbles rest
  | _ => []

/-- A digit string in packed decimal. A string of odd length gets one leading zero (R161). -/
def packDigits {w : Nat} (d : Digits w) : List Byte :=
  if w % 2 = 0 then packNibbles d.toList else packNibbles (0 :: d.toList)

/-- A number as `n` bytes of packed decimal, `2 n` digits (R161, R162). -/
def packedDecimal (n v : Nat) : List Byte := packDigits (digitsOfNat (2 * n) v)

/-- The number that bytes of packed decimal spell, or none where a half byte holds no decimal digit.
DEDUCED (log 10): such bytes are in no decimal range, so the command answers BAD_ARGUMENT. -/
def parsePacked (bs : List Byte) : Option Nat :=
  if bs.all (fun b => decide (b.toNat / 16 ≤ 9) && decide (b.toNat % 16 ≤ 9)) then
    some (bs.foldl (fun a b => a * 100 + b.toNat / 16 * 10 + b.toNat % 16) 0)
  else none

/-- One bit of the 16-bit CRC, polynomial x^16 + x^12 + x^5 + 1 (R15). -/
def crc16Bit (c : BitVec 16) : BitVec 16 :=
  if c.msb then (c <<< 1) ^^^ 0x1021#16 else c <<< 1

/-- One byte of the 16-bit CRC, most significant bit first. R15 gives the polynomial and the initial value
only: the order of the bits within a byte, and that nothing is inverted at the end, are the model's choice,
as R146 states both for the 8-bit CRC. DESIGN CHOICE (log 14). -/
def crc16Byte (c : BitVec 16) (b : Byte) : BitVec 16 :=
  let x := c ^^^ (b ++ (0#8) : BitVec 16)
  crc16Bit (crc16Bit (crc16Bit (crc16Bit (crc16Bit (crc16Bit (crc16Bit (crc16Bit x)))))))

/-- The 16-bit CRC of R15, initial value FFFF hex; no final inversion, DESIGN CHOICE (log 14). -/
def crc16 (bs : List Byte) : BitVec 16 := bs.foldl crc16Byte 0xFFFF#16

/-- One bit of the 8-bit CRC, polynomial x^8 + x^2 + x + 1 (R146). -/
def crc8Bit (c : BitVec 8) : BitVec 8 :=
  if c.msb then (c <<< 1) ^^^ 0x07#8 else c <<< 1

/-- One byte of the 8-bit CRC, most significant bit first. -/
def crc8Byte (c : BitVec 8) (b : Byte) : BitVec 8 :=
  let x := c ^^^ b
  crc8Bit (crc8Bit (crc8Bit (crc8Bit (crc8Bit (crc8Bit (crc8Bit (crc8Bit x)))))))

/-- The check byte of a frame, initial value 0, no final inversion (R146). -/
def crc8 (bs : List Byte) : Byte := bs.foldl crc8Byte 0#8

/-- The bytes that a run of sampled bits makes, most significant bit first. A partial byte at the
end is dropped (R145). -/
def bytesOfBits : List Bool → List Byte
  | b7 :: b6 :: b5 :: b4 :: b3 :: b2 :: b1 :: b0 :: rest =>
    byte (b7.toNat * 128 + b6.toNat * 64 + b5.toNat * 32 + b4.toNat * 16
      + b3.toNat * 8 + b2.toNat * 4 + b1.toNat * 2 + b0.toNat) :: bytesOfBits rest
  | _ => []

/-- The bits of a byte as they are sent, most significant first (R145). -/
def bitsOfByte (b : Byte) : List Bool := (List.finRange 8).map fun i => b.getMsbD i.val

end Sys2Proof.Machine
end

