-- ==== Sys2Proof/Machine/Operands.lean ====
section
/-! DEFINITION. The operand forms: the codes of R161, R163, R164 and R177, the arguments of a command,
and the byte layouts of reports, entries, records and check words (R15, R166 to R170, R186). -/

namespace Sys2Proof.Machine

/-! ### Codes (R161, R164, R177) -/

def boolCode (b : Bool) : Byte := if b then 1 else 0

def tariffIndex : Tariff → Fin 4
  | .t1 => 0 | .t2 => 1 | .t3 => 2 | .t4 => 3

def tariffOfIndex : Fin 4 → Tariff
  | 0 => .t1 | 1 => .t2 | 2 => .t3 | 3 => .t4

def tariffCode (t : Tariff) : Byte := byte (tariffIndex t).val

/-- The selector code of a tariff (R161). -/
def tariffSelector (t : Tariff) : BitVec 3 := BitVec.ofNat 3 (tariffIndex t).val

/-- The selector ALL (R161). -/
def selectorAll : BitVec 3 := 4#3

def optionCode {n : Nat} (q : Option (Fin n)) : Byte :=
  match q with
  | some i => byte i.val
  | none => 0xFF#8

def regStateNat : RegState → Nat
  | .free => 0 | .live => 1 | .overflowed => 2 | .suspect => 3

def policyNat : Policy → Nat
  | .wrap => 0 | .stop => 1

def modeNat : PartMode → Nat
  | .run => 0 | .setup => 1 | .enteringSetup => 2

def closeStateNat : CloseState → Nat
  | .idle => 0 | .requested => 1 | .writing => 2

def causeNat : Cause → Nat
  | .command => 0 | .line => 1 | .overdue => 2 | .setup => 3

def frontEndNat : FrontEnd → Nat
  | .disabled => 0 | .armed => 1 | .verifying => 2 | .latched => 3 | .rearming => 4

def sourceNat : SourceMode → Nat
  | .command => 0 | .lines => 1

def lineModeNat : LineMode → Nat
  | .off => 0 | .edge => 1 | .level => 2

def chainTickNat : ChainTick → Nat
  | .second => 0 | .minute => 1

def chainStateNat : ChainState → Nat
  | .unassigned => 0 | .stopped => 1 | .running => 2 | .held => 3 | .expired => 4

/-- The status codes of R164. -/
def statusCode : Status → Byte
  | .ok => 0x00 | .accepted => 0x01 | .frameError => 0x10 | .unknownCommand => 0x11
  | .badLength => 0x12 | .badArgument => 0x13 | .noRight => 0x14 | .wrongMode => 0x15
  | .powerFail => 0x16 | .queueFull => 0x20 | .closeBusy => 0x21 | .tooSoon => 0x22
  | .noSlot => 0x23 | .slotLimit => 0x24 | .notHeld => 0x25 | .notFound => 0x26
  | .damaged => 0x27 | .claimed => 0x28 | .notClaimed => 0x29 | .conflict => 0x2A
  | .commitRefused => 0x2B | .notReady => 0x2C

/-- The command codes of R163. -/
def kindCode : CommandKind → Byte
  | .readStatus => 0x01 | .readRegister => 0x02 | .readLastResult => 0x03 | .readNotices => 0x04
  | .setNoticeMask => 0x05 | .portReset => 0x06 | .postIncrement => 0x10 | .setTariff => 0x11
  | .requestClose => 0x12 | .readLog => 0x13 | .readDemand => 0x14 | .readPulseInput => 0x15
  | .snapshotOpen => 0x20 | .snapshotRead => 0x21 | .snapshotRenew => 0x22
  | .snapshotRelease => 0x23 | .claimSetup => 0x30 | .releaseSetup => 0x31
  | .defineQuantity => 0x32 | .bindRegister => 0x33 | .unbindRegister => 0x34
  | .setRegisterOptions => 0x35 | .clearRegister => 0x36 | .acceptRegister => 0x37
  | .definePulseInput => 0x38 | .defineDemandChannel => 0x39 | .defineChain => 0x3A
  | .setTariffSource => 0x3B | .setCloseOptions => 0x3C | .setRights => 0x3D
  | .clearLog => 0x3E | .commit => 0x3F | .reopen => 0x40 | .readConfiguration => 0x41
  | .unknown code => code

/-- The commands of the code table, in its order (R163). -/
def tableKinds : List CommandKind :=
  [.readStatus, .readRegister, .readLastResult, .readNotices, .setNoticeMask, .portReset,
   .postIncrement, .setTariff, .requestClose, .readLog, .readDemand, .readPulseInput] ++
  [.snapshotOpen, .snapshotRead, .snapshotRenew, .snapshotRelease, .claimSetup, .releaseSetup,
   .defineQuantity, .bindRegister, .unbindRegister, .setRegisterOptions, .clearRegister] ++
  [.acceptRegister, .definePulseInput, .defineDemandChannel, .defineChain, .setTariffSource,
   .setCloseOptions, .setRights, .clearLog, .commit, .reopen, .readConfiguration]

/-- The command of a code. A code not in the table is an unknown command (R163). -/
def kindOfCode (code : Byte) : CommandKind :=
  (tableKinds.find? fun k => kindCode k == code).getD (.unknown code)

/-- The highest length byte of a request (R146). -/
def lengthLimit : Nat := 60

/-- The argument lengths of R163. An unknown code has none. -/
def lengthAllowed (k : CommandKind) (n : Nat) : Bool :=
  match k with
  | .readStatus | .readLastResult | .readNotices | .portReset | .requestClose
  | .claimSetup | .releaseSetup | .clearLog | .commit | .reopen => n == 0
  | .readRegister | .setNoticeMask | .setTariff | .readDemand | .snapshotRenew
  | .snapshotRelease | .unbindRegister | .clearRegister | .acceptRegister => n == 1
  | .readPulseInput | .defineDemandChannel | .readConfiguration => n == 2
  | .snapshotRead | .defineQuantity | .setTariffSource | .setCloseOptions | .setRights => n == 3
  | .setRegisterOptions => n == 4
  | .readLog => n == 5
  | .postIncrement => n == 6
  | .bindRegister => n == 7
  | .defineChain => n == 11
  | .definePulseInput => n == 12
  | .snapshotOpen => decide (1 ≤ n ∧ n ≤ 60)
  | .unknown _ => false

/-- The modes in which a command is taken (R163), the source mode of SET TARIFF apart (R67). -/
def modeAllowed (k : CommandKind) (m : PartMode) : Bool :=
  match k with
  | .postIncrement | .reopen => m == .run
  | .setTariff | .requestClose => m != .setup
  | .claimSetup | .releaseSetup | .defineQuantity | .bindRegister | .unbindRegister
  | .setRegisterOptions | .clearRegister | .acceptRegister | .definePulseInput
  | .defineDemandChannel | .defineChain | .setTariffSource | .setCloseOptions | .setRights
  | .clearLog | .commit => m == .setup
  | .readStatus | .readRegister | .readLastResult | .readNotices | .setNoticeMask | .portReset
  | .readLog | .readDemand | .readPulseInput | .snapshotOpen | .snapshotRead | .snapshotRenew
  | .snapshotRelease | .readConfiguration | .unknown _ => true

/-- The editing commands of R176. -/
def isEdit : CommandKind → Bool
  | .defineQuantity | .bindRegister | .unbindRegister | .setRegisterOptions | .clearRegister
  | .acceptRegister | .definePulseInput | .defineDemandChannel | .defineChain
  | .setTariffSource | .setCloseOptions | .setRights | .clearLog => true
  | .readStatus | .readRegister | .readLastResult | .readNotices | .setNoticeMask | .portReset
  | .postIncrement | .setTariff | .requestClose | .readLog | .readDemand | .readPulseInput
  | .snapshotOpen | .snapshotRead | .snapshotRenew | .snapshotRelease | .claimSetup
  | .releaseSetup | .commit | .reopen | .readConfiguration | .unknown _ => false

/-- The commands the engine takes: the edits (R40) and COMMIT (R179). -/
def takenByEngine (k : CommandKind) : Bool := isEdit k || k == .commit

/-! ### Arguments (R161, R162) -/

/-- The argument byte at a position. -/
def arg (args : List Byte) (i : Nat) : Byte := args.getD i 0

/-- `n` argument bytes from a position. -/
def argBytes (args : List Byte) (i n : Nat) : List Byte := (args.drop i).take n

/-- An index below `n`, or none. -/
def finOfByte (n : Nat) (b : Byte) : Option (Fin n) :=
  if h : b.toNat < n then some ⟨b.toNat, h⟩ else none

/-- An index below `n`, or `none` coded FF; the outer none is BAD_ARGUMENT (R161). -/
def finOrNone (n : Nat) (b : Byte) : Option (Option (Fin n)) :=
  if b = 0xFF#8 then some none else (finOfByte n b).map some

def boolOfByte (b : Byte) : Option Bool :=
  if b = 0 then some false else if b = 1 then some true else none

def tariffOfByte (b : Byte) : Option Tariff := (finOfByte 4 b).map tariffOfIndex

/-- A selector code, T1 to T4 or ALL (R161). -/
def selectorOfByte (b : Byte) : Option (BitVec 3) :=
  if b.toNat ≤ 4 then some (BitVec.ofNat 3 b.toNat) else none

def policyOfByte (b : Byte) : Option Policy :=
  if b = 0 then some .wrap else if b = 1 then some .stop else none

def sourceOfByte (b : Byte) : Option SourceMode :=
  if b = 0 then some .command else if b = 1 then some .lines else none

def lineModeOfByte (b : Byte) : Option LineMode :=
  if b = 0 then some .off else if b = 1 then some .edge else if b = 2 then some .level else none

/-- DEMAND 0, OVERDUE 1, INHIBIT 2 (R177). -/
def chainFnOfByte (b : Byte) : Option ChainFn :=
  if b = 0 then some .demand else if b = 1 then some .overdue
  else if b = 2 then some .inhibit else none

def chainTickOfByte (b : Byte) : Option ChainTick :=
  if b = 0 then some .second else if b = 1 then some .minute else none

/-- A number that lies in a range. -/
def inRange (lo hi n : Nat) : Option Nat := if lo ≤ n ∧ n ≤ hi then some n else none

/-- A packed decimal argument that lies in a range. -/
def packedInRange (lo hi : Nat) (bs : List Byte) : Option Nat :=
  (parsePacked bs).bind (inRange lo hi)

/-! ### Register records (R4, R15, R167, R169, R170) -/

/-- A slot in state FREE: every other field zero (R3). -/
def freeRegister : RegisterRec where
  state := .free
  quantity := 0
  selector := 0
  digits := 0
  policy := .wrap
  archive := false
  periodReset := false
  value := digitsOfNat 12 0
  residue := digitsOfNat 3 0
  wrapCount := 0
  check := 0

/-- The value of a register: its lowest d cells (R3, R4). -/
def heldValue (r : RegisterRec) : Digits 12 := lastDigits r.digits.toNat r.value

/-- The residue of a register: its lowest k cells, absent and so zero where k is 0 (R3, R4). -/
def heldResidue (scale : Nat) (r : RegisterRec) : Digits 3 := lastDigits scale r.residue

/-- The bytes a register's check word is computed over: the slot number, then the fields in the order
of R3's table, one byte a field, the digits packed. The order is R15's; the width of a field is the
model's, DESIGN CHOICE (log 14). -/
def registerCheckBytes (i : RegSlot) (scale : Nat) (r : RegisterRec) : List Byte :=
  [byte i.val, byte (regStateNat r.state), byte r.quantity.val, byte r.selector.toNat,
   byte r.digits.toNat, byte scale, byte (policyNat r.policy), boolCode r.archive,
   boolCode r.periodReset] ++ packDigits (heldValue r) ++ packDigits (heldResidue scale r)
   ++ [byte r.wrapCount.toNat]

/-- The check word of a register record (R15). -/
def registerCheck (i : RegSlot) (scale : Nat) (r : RegisterRec) : BitVec 16 :=
  crc16 (registerCheckBytes i scale r)

/-- The register report, 20 bytes (R167). A FREE slot reports zeros but for the slot and the counter
(R17). -/
def registerReport (i : RegSlot) (scale : Nat) (r : RegisterRec) (counter : BitVec 32) : List Byte :=
  if r.state = .free then
    byte i.val :: List.replicate 15 0 ++ bigEndian 4 counter.toNat
  else
    [byte i.val, byte (regStateNat r.state), byte r.quantity.val, byte r.selector.toNat,
     byte r.digits.toNat, byte scale,
     byte (policyNat r.policy + 2 * r.archive.toNat + 4 * r.periodReset.toNat)]
    ++ packDigits (heldValue r) ++ packDigits (heldResidue scale r) ++ [byte r.wrapCount.toNat]
    ++ bigEndian 4 counter.toNat

/-- A register as a capture enters it (R117, R122). -/
def capturedEntry (i : RegSlot) (scale : Nat) (r : RegisterRec) : CapturedEntry :=
  if r.state = .free then ⟨i, .free, digitsOfNat 12 0, digitsOfNat 3 0, 0⟩
  else ⟨i, r.state, heldValue r, heldResidue scale r, r.wrapCount⟩

/-- A captured snapshot entry, 11 bytes (R169). -/
def capturedEntryBytes (e : CapturedEntry) : List Byte :=
  [byte e.slot.val, byte (regStateNat e.state)] ++ packDigits e.value ++ packDigits e.residue
  ++ [byte e.wrapCount.toNat]

/-- A register entry of a log record, 9 bytes (R170). -/
def registerEntryBytes (i : RegSlot) (r : RegisterRec) : List Byte :=
  [byte (i.val * 8 + r.selector.toNat), byte (regStateNat r.state * 64 + r.wrapCount.toNat),
   byte r.quantity.val] ++ packDigits (heldValue r)

/-- A demand entry of a log record, 9 bytes (R170). -/
def demandEntryBytes (c : ChannelId) (t : Fin 4) (e : MaxEntry) : List Byte :=
  [byte (c.val * 16 + t.val)] ++ packedDecimal 5 e.maximum ++ bigEndian 2 e.index ++ [0]

/-! ### Log records and the log index (R104 to R108, R170) -/

/-- A log record from the bytes before its check, and its entries (R170). -/
def recordBytes (header : List Byte) (entries : List Byte) : List Byte :=
  header ++ bigEndian 2 (crc16 (header ++ entries)).toNat ++ entries

/-- Whether a record's stored bytes agree with its check (R104, R108, R170). -/
def recordCheckOk (bytes : List Byte) : Bool :=
  decide (14 ≤ bytes.length) &&
    ((crc16 (bytes.take 12 ++ bytes.drop 14)).toNat == fromBigEndian ((bytes.drop 12).take 2))

/-- The bytes the index check word is computed over. The byte form is the model's, DESIGN CHOICE
(log 14). -/
def indexBytes (entries : List LogEntry) (total : Nat) : List Byte :=
  entries.flatMap (fun e => bigEndian 2 e.size ++ [boolCode e.damaged]) ++ bigEndian 2 total

/-- A log of the given records, with its index written anew: the total and the check word (R107). The spec
gives the check word's code nowhere: 16 bits with the polynomial and the initial value of R15, DESIGN CHOICE
(log 14). -/
def logOf (entries : List LogEntry) : PeriodLog :=
  let total := (entries.map (·.size)).sum
  ⟨entries, total, crc16 (indexBytes entries total)⟩

/-- Whether the index agrees with its own check word (R107, R108), in the code that logOf writes (log 14). -/
def indexCheckOk (l : PeriodLog) : Bool := l.check == crc16 (indexBytes l.entries l.total)

/-! ### The configuration and the store signature (R186) -/

def rightsByte (r : RightsRec) : Byte :=
  byte (r.tariff.toNat + 2 * r.close.toNat + 4 * r.snap.toNat + 8 * r.setup.toNat)

def pulseDefBytes (d : PulseDef) : List Byte :=
  [boolCode d.enabled, boolCode d.activeHigh, boolCode d.pullUp, byte d.spacing, byte d.rearmTime,
   byte d.quantity.val] ++ packedDecimal 2 d.mantissa ++ [byte d.fraction, byte d.threshold]

/-- A chain's assigned flag (R135). -/
def assigned (c : Chain) : Bool := c.state != .unassigned

def chainDefBytes (c : Chain) : List Byte :=
  [boolCode (assigned c), byte c.first, byte c.length, byte (chainTickNat c.tick)]
  ++ bigEndian 6 c.reload

def closeOptionBytes (o : CloseOptions) : List Byte :=
  [byte (lineModeNat o.lineMode), boolCode o.overdueEnabled, boolCode o.inhibitEnabled]

/-- The configuration that the signature covers, in R186's order. The byte form is the model's,
DESIGN CHOICE (log 14). -/
def configurationBytes (s : Store) : List Byte :=
  s.quantities.toList.flatMap (fun q => [boolCode q.defined, byte q.scale])
  ++ s.pulseDefs.toList.flatMap pulseDefBytes
  ++ s.channels.toList.map (fun c => optionCode c.quantity)
  ++ chainDefBytes s.chains.demand ++ chainDefBytes s.chains.overdue
  ++ chainDefBytes s.chains.inhibit
  ++ [byte (sourceNat s.sourceMode)] ++ closeOptionBytes s.closeOptions
  ++ s.rights.toList.flatMap (fun r => [r.postMask, rightsByte r])

/-- The signature that fits a store (R186). -/
def signatureOf (s : Store) : Signature := ⟨.fixed, crc16 (configurationBytes s)⟩

/-- The store with its signature rewritten (R186). -/
def writeSignature (s : Store) : Store := { s with signature := signatureOf s }

/-- Whether the store signature verifies (R186). -/
def signatureOk (s : Store) : Bool := s.signature == signatureOf s

/-! ### Factory values (R192) -/

def undefinedQuantity : QuantityRec := ⟨false, 0⟩

/-- The definition of an input at cold start (R45). -/
def factoryPulseDef : PulseDef where
  enabled := false
  activeHigh := false
  pullUp := true
  spacing := 1
  rearmTime := 1
  quantity := 0
  mantissa := 1
  fraction := 0
  threshold := 1

def zeroPulseCount : PulseCount := ⟨0, 0, 0, 0, false⟩

def unassignedChain : Chain := ⟨0, 0, .second, 0, .unassigned, 0⟩

def zeroMaxima : Vector MaxEntry 4 := Vector.replicate 4 ⟨0, 0⟩

/-- The rights table at cold start (R174). -/
def factoryRights : Vector RightsRec 3 :=
  #v[⟨0xFF, true, true, true, true⟩, ⟨0, false, false, true, false⟩, ⟨0, false, false, true, false⟩]

/-- Every retained item at its factory value, the signature aside (R192). -/
def factoryItems : Store where
  quantities := Vector.replicate 8 undefinedQuantity
  registers := Vector.replicate 32 freeRegister
  rights := factoryRights
  pulseDefs := Vector.replicate 8 factoryPulseDef
  pulseCounts := Vector.replicate 8 zeroPulseCount
  sourceMode := .command
  activeTariff := .t1
  closeOptions := ⟨.off, false, false⟩
  channels := Vector.replicate 4 ⟨none, zeroMaxima⟩
  intervalIndex := 0
  log := logOf []
  periodNumber := 1
  periodDuration := 0
  overdueHeld := false
  chains := ⟨unassignedChain, unassignedChain, unassignedChain⟩
  applicationCounter := 0
  mode := .setup
  signature := ⟨.fixed, 0⟩
  coldMarker := true

/-- The retained store that a cold start leaves: factory values, a new signature over them, and the
cold-start marker set (R192). -/
def factoryStore : Store := writeSignature factoryItems

/-! ### Other report layouts -/

/-- The pulse input report, 21 bytes (R168). -/
def pulseReport (n : InputId) (d : PulseDef) (c : PulseCount) (i : InputRun) : List Byte :=
  byte n.val :: pulseDefBytes d ++ [byte (frontEndNat i.frontEnd), boolCode i.lastActive]
  ++ bigEndian 2 c.pending ++ packedDecimal 2 c.remainder ++ [byte c.noise, byte c.reject,
    boolCode c.saturated, boolCode i.eligible]

def noticeKindNat : NoticeKind → Nat
  | .done => 1 | .overflow => 2 | .suspect => 3 | .closed => 4 | .tariff => 5 | .peak => 6
  | .lease => 7 | .pulse => 8 | .restored => 9

/-- A notice record, 6 bytes (R166). -/
def noticeBytes (n : Notice) : List Byte :=
  [byte (noticeKindNat n.kind), n.subject, n.detail0, n.detail1, n.detail2, n.detail3]

end Sys2Proof.Machine
end

