-- ==== Sys2Proof/Syntax.lean ====
section
/-! DEFINITION. The commands and events the part takes: one constructor for each row of
spec/opcode_table.json. A command row carries the port and the argument bytes of a frame whose check
byte matched (R146, log 7). -/

namespace Sys2Proof

open Machine

/-- The commands and events of the table, in its order. -/
inductive Instr where
  -- the command codes of R163
  | readStatus (p : PortId) (args : List Byte)
  | readRegister (p : PortId) (args : List Byte)
  | readLastResult (p : PortId) (args : List Byte)
  | readNotices (p : PortId) (args : List Byte)
  | setNoticeMask (p : PortId) (args : List Byte)
  | portReset (p : PortId) (args : List Byte)
  | postIncrement (p : PortId) (args : List Byte)
  | setTariff (p : PortId) (args : List Byte)
  | requestClose (p : PortId) (args : List Byte)
  | readLog (p : PortId) (args : List Byte)
  | readDemand (p : PortId) (args : List Byte)
  | readPulseInput (p : PortId) (args : List Byte)
  | snapshotOpen (p : PortId) (args : List Byte)
  | snapshotRead (p : PortId) (args : List Byte)
  | snapshotRenew (p : PortId) (args : List Byte)
  | snapshotRelease (p : PortId) (args : List Byte)
  | claimSetup (p : PortId) (args : List Byte)
  | releaseSetup (p : PortId) (args : List Byte)
  | defineQuantity (p : PortId) (args : List Byte)
  | bindRegister (p : PortId) (args : List Byte)
  | unbindRegister (p : PortId) (args : List Byte)
  | setRegisterOptions (p : PortId) (args : List Byte)
  | clearRegister (p : PortId) (args : List Byte)
  | acceptRegister (p : PortId) (args : List Byte)
  | definePulseInput (p : PortId) (args : List Byte)
  | defineDemandChannel (p : PortId) (args : List Byte)
  | defineChain (p : PortId) (args : List Byte)
  | setTariffSource (p : PortId) (args : List Byte)
  | setCloseOptions (p : PortId) (args : List Byte)
  | setRights (p : PortId) (args : List Byte)
  | clearLog (p : PortId) (args : List Byte)
  | commit (p : PortId) (args : List Byte)
  | reopen (p : PortId) (args : List Byte)
  | readConfiguration (p : PortId) (args : List Byte)
  -- frames that bring no command of the table
  | unknownCommand (p : PortId) (code : Byte) (args : List Byte)
  | frameError (p : PortId)
  | frameDiscarded (p : PortId)
  | lengthByteAbove60 (p : PortId)
  | readNoticesResponseLost (p : PortId)
  -- the arbiter, the engine, the setup unit
  | portGrant
  | conversion
  | applicationStart
  | applicationCompletion
  | captureStart
  | captureCompletion
  | writingStart
  | closeCompletion
  | setupClosePlacement
  -- time: the level of every pulse pin and of CLOSEIN; the levels of the TSEL lines; the takers that
  -- come first
  | sampleTick (pls : BitVec 8) (closein : Bool)
  | secondTick (tsel1 tsel0 : Bool) (first : List TickTaker)
  | minuteTick (first : List TickTaker)
  | pulseJudgement (n : InputId) (high : Bool)
  | rearmComplete (n : InputId)
  | recognizedFallingEdge
  | recognizedRisingEdge
  | demandExpiry
  | overdueExpiry
  | inhibitExpiry
  | leaseExpiry (slot : SnapId)
  -- supply and pins: whether PFAIL is asserted again during the restore; whether PFAIL reads
  -- deasserted as the supply rises
  | drainEntry
  | retainEntry
  | restore (pfailAgain : Bool)
  | powerUp (pfailDeasserted : Bool)
  | resetPin
  | resetPinRelease
  | lossOfBothSupplies
  deriving DecidableEq, Repr

end Sys2Proof
end

