-- ==== Sys2Proof/Machine/State.lean ====
section
/-! DEFINITION. The state of the part as plain data, the ways a step can stop, and the state after
reset. -/

namespace Sys2Proof.Machine

/-- Everything the spec gives the part (INVENTORY.md, State). -/
structure State where
  /-- The retained store (R185). -/
  store : Store
  /-- P0, P1, P2 (R148, R150, R153, R155). -/
  ports : Vector Port 3
  /-- Whether the ports are powered and take frames (R156, R190 step 10). -/
  portsUp : Bool
  /-- The RESET input is low (R159). -/
  resetLow : Bool
  /-- The requester granted last (R25). -/
  arbiterPointer : Requester
  /-- The increment queue, head first (R22). -/
  queue : List Increment
  /-- The accumulation engine (R32). -/
  engine : Engine
  /-- The waiting capture requests, oldest first (R121). -/
  captureQueue : List SnapId
  /-- S0 to S3 (R117). -/
  slots : Vector SnapSlot 4
  /-- The setup claim (R172). -/
  claim : Option PortId
  /-- The REOPEN requester (R180). -/
  reopen : Option Reopen
  /-- The line sample history (R69). -/
  lineHistory : Option Tariff
  /-- The volatile state of the pulse inputs (R46). -/
  inputs : Vector InputRun 8
  /-- The input the converter served last (R58). -/
  converterPointer : InputId
  /-- The CLOSEIN recognizer (R95). -/
  recognizer : Recognizer
  /-- The CLOSEIN latch (R89). -/
  latch : Bool
  /-- The close state (R89). -/
  closeState : CloseState
  /-- The current close (R89). -/
  currentClose : Option CurrentClose
  /-- Whether a DONE is owed to the requester of the current close (R89). -/
  doneOwed : Bool
  /-- The record being written (R103). -/
  building : Option Building
  /-- The interval accumulators of D0 to D3 (R76). -/
  accumulators : Vector Nat 4
  /-- The interval partial marker (R77). -/
  intervalPartial : Bool
  /-- The prescaler's phase (R133). -/
  prescaler : Prescaler
  /-- The supply state (R187). -/
  supply : SupplyState
  /-- PFAIL is asserted, as the part takes it (R187). -/
  pfailAsserted : Bool
  /-- The retain duration in seconds (R189). -/
  retainDuration : Nat
  /-- The model's own: how many stores have been lost, the argument of Config.lostStore (log 16). -/
  freeIndex : Nat
  /-- The commands that wait, first in first out (log 2). -/
  pending : List Instr
  deriving DecidableEq, Repr

/-- How the part can stop with a fault: no rule of the spec stops it, so there is no constructor. -/
inductive Fault where
  deriving DecidableEq, Repr

/-- How a command can be turned away without a meaning. -/
inductive Refusal where
  /-- Raised by exec's arm of a row that has no meaning yet; no arm raises it now. Safe: the run ends. -/
  | notModelled (mnemonic : String)
  deriving DecidableEq, Repr

/-- The RESTORED notice (R166, R191). -/
def restoredNotice (cold : Bool) (seconds : Nat) : Notice :=
  ⟨.restored, boolCode cold, byte (seconds / 2 ^ 24), byte (seconds / 2 ^ 16),
   byte (seconds / 2 ^ 8), byte seconds⟩

/-- A port as it comes up: idle, empty, OVERRUN clear, its mask all enabled (R160). -/
def idlePort : Port := ⟨none, none, none, [], false, false, 0x3F#6, .quiet⟩

/-- A pulse input at cold start (R55, R64). -/
def disabledInput : InputRun := ⟨.disabled, false, 0, 0, 0, 0, false, false⟩

/-- The recognizer at COMMIT, restore and cold start (R95). -/
def unknownRecognizer : Recognizer := ⟨.unknown, false, 0⟩

/-- The part after a cold start at power-up, when the restore that follows it is complete: the first
moment at which a command can be taken (R192, log 1). -/
def State.reset : State where
  store := { factoryStore with coldMarker := false }
  ports := Vector.replicate 3
    ⟨none, none, none, [restoredNotice true 0], true, false, 0x3F#6, .quiet⟩
  portsUp := true
  resetLow := false
  arbiterPointer := .converter
  queue := []
  engine := .halted
  captureQueue := []
  slots := Vector.replicate 4 .free
  claim := none
  reopen := none
  lineHistory := none
  inputs := Vector.replicate 8 disabledInput
  converterPointer := 7
  recognizer := unknownRecognizer
  latch := false
  closeState := .idle
  currentClose := none
  doneOwed := false
  building := none
  accumulators := Vector.replicate 4 0
  intervalPartial := true
  prescaler := ⟨0, 0, []⟩
  supply := .runSupply
  pfailAsserted := false
  retainDuration := 0
  freeIndex := 0
  pending := []

end Sys2Proof.Machine
end

