-- ==== Sys2Proof/Machine/Flags.lean ====
section
/-! DEFINITION. The flags byte of a response, ATTN, the notice mask, and the response as it is sent
(R147, R153, R155, R165). -/

namespace Sys2Proof.Machine

/-- The mask bit of a maskable kind; none for DONE, LEASE and RESTORED (R161). -/
def maskBit : NoticeKind → Option Nat
  | .overflow => some 0 | .suspect => some 1 | .closed => some 2 | .tariff => some 3
  | .peak => some 4 | .pulse => some 5
  | .done | .lease | .restored => none

/-- Whether a port's mask lets a kind through (R152, R155). -/
def maskEnables (mask : BitVec 6) (k : NoticeKind) : Bool :=
  match maskBit k with
  | some b => mask.getLsbD b
  | none => true

/-- The flags byte of a response whose start byte is sent in this state (R147, R165). -/
def flagsByte (s : State) (p : PortId) : Byte :=
  byte ((!s.ports[p].notices.isEmpty).toNat + 2 * s.ports[p].overrun.toNat
    + 4 * modeNat s.store.mode)

/-- The response a port sends, whole, if its start byte is sent in this state: start byte, status,
flags, data length, data, check byte (R147, R165). -/
def responseBytes (s : State) (p : PortId) : Option (List Byte) :=
  match s.ports[p].wire with
  | .response r =>
    let body := [statusCode r.status, flagsByte s p, byte r.data.length] ++ r.data
    some ((0xA5#8 :: body) ++ [crc8 body])
  | .quiet | .waitBytes => none

/-- Whether the ports decode frames (R156, R159). -/
def listening (s : State) : Bool := s.portsUp && !s.resetLow

/-- Where a frame of a port stands: chip select high; the request being clocked in; the request's check byte
complete and the start byte not sent; the start byte sent, with the bytes that are still to follow it, which
hold the flags and the check byte of that moment; or the frame abandoned, chip select still low (R145, R147,
R159). Chip select and the clock are inputs that no row of the table moves, so the phase is an operand here, and
a new frame is a new operand (log 29). -/
inductive FramePhase where
  | unselected
  | request
  | waiting
  | sending (rest : List Byte)
  | abandoned
  deriving DecidableEq, Repr

/-- The phase of a frame once the part stands in this state: a state in which the ports take no frame, RESET
low or the ports without power, abandons every frame in progress (R156, R159). -/
def phaseIn (s : State) (phase : FramePhase) : FramePhase :=
  match phase with
  | .unselected => .unselected
  | .request | .waiting | .sending _ | .abandoned => if listening s then phase else .abandoned

/-- The byte on a port's data output, none where it is high-impedance (R145, R147, R159): nothing while chip
select is high or the frame is abandoned; wait bytes through the request, and after it until there is a result;
then the start byte, the bytes that follow it, and FF after the last. -/
def drivenByte (s : State) (p : PortId) (phase : FramePhase) : Option Byte :=
  match phaseIn s phase, s.ports[p].wire with
  | .unselected, _ | .abandoned, _ => none
  | .request, _ => some 0xEE#8
  | .waiting, .quiet | .sending _, .quiet => none
  | .waiting, .waitBytes | .sending _, .waitBytes => some 0xEE#8
  | .waiting, .response _ => some 0xA5#8
  | .sending rest, .response _ => some (rest.headD 0xFF#8)

/-- The phase after one byte has been clocked in this state. The start byte is sent with the first byte clocked
once there is a result, and the rest of the response is fixed with it, its flags those of this state (R147,
log 8). A request ends with its check byte, which is the master's (R146). -/
def phaseAfterByte (s : State) (p : PortId) (phase : FramePhase) : FramePhase :=
  match phaseIn s phase with
  | .waiting =>
    match responseBytes s p with
    | some bytes => .sending bytes.tail
    | none => .waiting
  | .sending rest => .sending rest.tail
  | other => other

/-- The bytes on a port's data output over a run, given as the states the part stands in, one after another,
each with whether a byte is clocked in it. A state in which none is clocked still abandons the frame where
the ports take none in it, so a frame that RESET met between two bytes is not taken up again (R145, R147,
R159). -/
def drivenBytes (p : PortId) : FramePhase → List (State × Bool) → List (Option Byte)
  | _, [] => []
  | phase, (s, true) :: rest => drivenByte s p phase :: drivenBytes p (phaseAfterByte s p phase) rest
  | phase, (s, false) :: rest => drivenBytes p (phaseIn s phase) rest

/-- The bits on a port's data output over one byte, most significant first (R145). -/
def drivenBits (s : State) (p : PortId) (phase : FramePhase) : Option (List Bool) :=
  (drivenByte s p phase).map bitsOfByte

end Sys2Proof.Machine
end

