-- ==== Sys2Proof/Machine/Ops.lean ====
section
/-! DEFINITION. The operations that more than one block uses: writing a record, raising a notice,
verifying a register, driving a chain, ending a demand interval, taking a close, freeing a snapshot
slot, and answering a frame. -/

namespace Sys2Proof.Machine

/-! ### Writing one record -/

/-- The state with its retained store changed. -/
def onStore (f : Store → Store) (s : State) : State := { s with store := f s.store }

/-- A configuration edit: the store changed, and the signature rewritten in the same write (R186). -/
def onConfiguration (f : Store → Store) (s : State) : State :=
  onStore (fun st => writeSignature (f st)) s

/-- The state with one port changed. -/
def onPort (p : PortId) (f : Port → Port) (s : State) : State :=
  { s with ports := s.ports.set p (f s.ports[p]) }

/-- The state with the volatile part of one pulse input changed. -/
def onInput (n : InputId) (f : InputRun → InputRun) (s : State) : State :=
  { s with inputs := s.inputs.set n (f s.inputs[n]) }

/-- The state with the retained counts of one pulse input changed. -/
def onCount (n : InputId) (f : PulseCount → PulseCount) (s : State) : State :=
  onStore (fun st => { st with pulseCounts := st.pulseCounts.set n (f st.pulseCounts[n]) }) s

/-- The scale of a quantity (R1). -/
def scaleOf (s : State) (q : Quantity) : Nat := s.store.quantities[q].scale

/-- Writes a register record as it is given. -/
def setRegister (i : RegSlot) (r : RegisterRec) (s : State) : State :=
  onStore (fun st => { st with registers := st.registers.set i r }) s

/-- Writes a bound register record with its check word computed anew (R15). -/
def putRegister (i : RegSlot) (r : RegisterRec) (s : State) : State :=
  setRegister i { r with check := registerCheck i (scaleOf s r.quantity) r } s

/-! ### Notices (R152, R153) -/

/-- Whether notices are queued: not from drain entry until the ports come up (R156). -/
def queueing (s : State) : Bool := s.portsUp && s.supply == .runSupply

/-- A notice offered to a queue: it joins the newest end, or is dropped and OVERRUN set at 8
(R153). -/
def joinQueue (n : Notice) (q : Port) : Port :=
  if q.notices.length < 8 then { q with notices := q.notices ++ [n], attn := true }
  else { q with overrun := true }

/-- A notice offered to one port, whatever its mask. -/
def offer (p : PortId) (n : Notice) (s : State) : State :=
  if queueing s then onPort p (joinQueue n) s else s

/-- A notice offered to one port if its mask lets the kind through. -/
def offerMasked (n : Notice) (s : State) (p : PortId) : State :=
  if maskEnables s.ports[p].mask n.kind then offer p n s else s

/-- A notice raised: offered to each port whose mask enables it, and to every port for a kind that
has no mask bit (R152). -/
def raise (n : Notice) (s : State) : State := [0, 1, 2].foldl (offerMasked n) s

/-- SUSPECT: the slot; quantity, selector, where found (R16, R166). -/
def suspectNotice (i : RegSlot) (r : RegisterRec) (found : FoundAt) : Notice :=
  ⟨.suspect, byte i.val, byte r.quantity.val, byte r.selector.toNat,
   byte (match found with
     | .apply => 0 | .read => 1 | .capture => 2 | .close => 3 | .periodReset => 4 | .edit => 5
     | .restore => 6), 0⟩

/-- OVERFLOW: the slot; quantity, selector, WRAPPED or STOPPED, wrap count (R13, R166). -/
def overflowNotice (i : RegSlot) (r : RegisterRec) : Notice :=
  ⟨.overflow, byte i.val, byte r.quantity.val, byte r.selector.toNat, byte (policyNat r.policy),
   byte r.wrapCount.toNat⟩

/-- CLOSED: the cause; the closed period number, the requester, the records removed (R110, R166). -/
def closedNotice (cause : Cause) (period : BitVec 16) (requester : Option PortId) (removed : Nat) :
    Notice :=
  ⟨.closed, byte (causeNat cause), byte (period.toNat / 256), byte period.toNat,
   optionCode requester, byte removed⟩

/-- DONE for REQUEST CLOSE or REOPEN: the code; status, the closed period number (R110, R182,
R166). -/
def doneCloseNotice (k : CommandKind) (period : BitVec 16) : Notice :=
  ⟨.done, kindCode k, statusCode .ok, byte (period.toNat / 256), byte period.toNat, 0⟩

/-- DONE for SNAPSHOT OPEN: the code; status, slot, the two low bytes of the counter (R123, R166). -/
def doneCaptureNotice (i : SnapId) (counter : BitVec 32) : Notice :=
  ⟨.done, kindCode .snapshotOpen, statusCode .ok, byte i.val, byte (counter.toNat / 256),
   byte counter.toNat⟩

/-- LEASE: the slot; the lease, the two low bytes of the counter (R128, R166). -/
def leaseNotice (i : SnapId) (lease : Nat) (counter : BitVec 32) : Notice :=
  ⟨.lease, byte i.val, byte lease, byte (counter.toNat / 256), byte counter.toNat, 0⟩

/-- TARIFF: the new tariff; the old, the source, the port or FF (R72, R166). -/
def tariffNotice (new old : Tariff) (source : SourceMode) (port : Option PortId) : Notice :=
  ⟨.tariff, tariffCode new, tariffCode old, byte (sourceNat source), optionCode port, 0⟩

/-- PEAK: channel and tariff; the maximum as eight digits, at most 99,999,999 (R80, R166). -/
def peakNotice (c : ChannelId) (t : Tariff) (maximum : Nat) : Notice :=
  let d := packedDecimal 4 (min maximum 99999999)
  ⟨.peak, byte (c.val * 16 + (tariffIndex t).val), arg d 0, arg d 1, arg d 2, arg d 3⟩

/-- PULSE: the input; quantity, noise count, reject count (R54, R166). -/
def pulseNotice (n : InputId) (q : Quantity) (noise reject : Nat) : Notice :=
  ⟨.pulse, byte n.val, byte q.val, byte noise, byte reject, 0⟩

/-! ### Check words (R15, R16) -/

/-- Whether a register's check word matches, its record in slot `i`. -/
def checkMatches (s : State) (i : RegSlot) (r : RegisterRec) : Bool :=
  r.check == registerCheck i (scaleOf s r.quantity) r

/-- A register as it is marked SUSPECT: cells that hold no decimal digit set to 9, the other fields
kept as found (R16). -/
def markedSuspect (r : RegisterRec) : RegisterRec :=
  { r with state := .suspect, value := sanitizeDigits r.value, residue := sanitizeDigits r.residue }

/-- The verification of a register's check word, with the marking SUSPECT on a mismatch. A register
already SUSPECT is taken as it is, whatever its cells hold (log 33), gets its check word anew and no second
notice; a FREE slot is never verified (R15, R16). -/
def verifyRegister (found : FoundAt) (s : State) (i : RegSlot) : State :=
  let r := s.store.registers[i]
  if r.state = .free ∨ checkMatches s i r then s
  else if r.state = .suspect then putRegister i r s
  else raise (suspectNotice i r found) (putRegister i (markedSuspect r) s)

/-! ### Chains (R137) -/

def chainOf (cs : Chains) : ChainFn → Chain
  | .demand => cs.demand
  | .overdue => cs.overdue
  | .inhibit => cs.inhibit

def withChain (cs : Chains) (f : ChainFn) (c : Chain) : Chains :=
  match f with
  | .demand => { cs with demand := c }
  | .overdue => { cs with overdue := c }
  | .inhibit => { cs with inhibit := c }

/-- A load: the count is set to the reload value and the chain runs (R137). -/
def loaded (c : Chain) : Chain :=
  if c.state = .unassigned then c else { c with state := .running, count := c.reload }

/-- A hold: a RUNNING chain stops with its count kept (R137). -/
def held (c : Chain) : Chain := if c.state = .running then { c with state := .held } else c

/-- A release: a HELD chain counts on (R137). -/
def released (c : Chain) : Chain := if c.state = .held then { c with state := .running } else c

/-- The state with one entry of the chain table changed. -/
def onChain (f : ChainFn) (g : Chain → Chain) (s : State) : State :=
  onStore (fun st => { st with chains := withChain st.chains f (g (chainOf st.chains f)) }) s

/-- What counter segment G0 to G3 holds: its twelve bits of the count of the chain it belongs to, 0
in no chain (R135, R136). -/
def segment (cs : Chains) (g : Fin 4) : Nat :=
  let part (c : Chain) : Nat :=
    if assigned c ∧ c.first ≤ g.val ∧ g.val < c.first + c.length then
      c.count / 4096 ^ (g.val - c.first) % 4096
    else 0
  part cs.demand + part cs.overdue + part cs.inhibit

/-! ### Demand intervals (R77, R81) -/

/-- The interval index raised by one, saturating at 65535 (R77). -/
def raiseIndex (st : Store) : Store := { st with intervalIndex := min (st.intervalIndex + 1) 65535 }

/-- The common effect of a partial end: every accumulator cleared without comparison, the marker set
(R81). -/
def clearInterval (s : State) : State :=
  { s with accumulators := Vector.replicate 4 0, intervalPartial := true }

/-- A partial end that starts a new interval: the index raised and the DEMAND chain loaded (R81). At COMMIT
and at restore it raises the index too, as R81, R85, R88 and R179 say, so that the first interval after a
close with cause SETUP, or after one completed in drain, bears index 1, against R84's "index 0": DESIGN
CHOICE (log 37). -/
def partialEnd (s : State) : State :=
  onChain .demand loaded (onStore raiseIndex (clearInterval s))

/-- The partial end of a close start: the index unchanged and the DEMAND chain held (R81, R82). -/
def closeStart (s : State) : State := onChain .demand held (clearInterval s)

/-! ### Taking a close (R92, R93) -/

/-- Whether the close inhibit is active (R93). -/
def inhibitActive (s : State) : Bool :=
  s.store.closeOptions.inhibitEnabled &&
    (s.store.chains.inhibit.state == .running || s.store.chains.inhibit.state == .held)

/-- A close request taken: the current close recorded, the latch and overdue held cleared, the demand
unit told. The engine finds the request by the close state REQUESTED (R92, R33). -/
def takeClose (cause : Cause) (requester : Option PortId) (s : State) : State :=
  let s := onStore (fun st => { st with overdueHeld := false }) s
  closeStart { s with
    closeState := .requested
    currentClose := some ⟨cause, requester⟩
    doneOwed := cause == .command
    latch := false }

/-- The period unit acts on a set latch, by the line mode (R96, R97); in drain it takes no new close
(R112). -/
def examineLatch (s : State) : State :=
  if s.latch ∧ s.closeState = .idle ∧ s.store.mode = .run ∧ s.supply = .runSupply then
    match s.store.closeOptions.lineMode with
    | .off => s
    | .edge => if inhibitActive s then { s with latch := false } else takeClose .line none s
    | .level => if inhibitActive s then s else takeClose .line none s
  else s

/-! ### Snapshot slots (R118, R121) -/

/-- The port that holds a slot, PENDING or HELD (R118). -/
def slotHolder : SnapSlot → Option PortId
  | .free => none
  | .pending o => some o.holder
  | .held o _ _ _ => some o.holder

/-- How many slots a port holds (R118). -/
def slotCount (s : State) (p : PortId) : Nat :=
  s.slots.toList.countP fun x => slotHolder x == some p

/-- The request of a freed slot withdrawn: removed if it waits, and a capture already begun for it is
to be discarded on its arrival (R121). -/
def withdrawCapture (i : SnapId) (s : State) : State :=
  { s with
    captureQueue := s.captureQueue.filter (· != i)
    engine := match s.engine with
      | .capturing j w copies stamp =>
        if j = i then .capturing j true copies stamp else .capturing j w copies stamp
      | e => e }

/-- A slot freed, as SNAPSHOT RELEASE frees it (R127). -/
def freeSlot (s : State) (i : SnapId) : State :=
  withdrawCapture i { s with slots := s.slots.set i .free }

/-- Every slot a port holds freed, without notice (R130). -/
def freeSlotsOf (p : PortId) (s : State) : State :=
  [0, 1, 2, 3].foldl (fun s i => if slotHolder s.slots[i] = some p then freeSlot s i else s) s

/-! ### Resets of one port (R158, R159) -/

/-- What PORT RESET does for its port and the RESET pin for all: the queue, OVERRUN, ATTN, the mask
and the last-result record, the slots, the claim, and every DONE owed (R158). -/
def resetPort (s : State) (p : PortId) : State :=
  let s := onPort p (fun q =>
    { q with notices := [], attn := false, overrun := false, mask := 0x3F#6,
             lastResult := none }) s
  let s := freeSlotsOf p s
  { s with
    claim := if s.claim = some p then none else s.claim
    doneOwed := if (s.currentClose.bind (·.requester)) = some p then false else s.doneOwed
    reopen := s.reopen.map fun r => if r.requester = p then { r with owed := false } else r }

/-! ### Answering a frame (R147 to R151) -/

/-- What a command's own block answers: the state it leaves, and its status and data, or none while
its result is not yet made. -/
structure Reply where
  state : State
  result : Option (Status × List Byte)

/-- A refusal: no effect, and no data (R149, log 9). -/
def refuse (s : State) (st : Status) : Reply := ⟨s, some (st, [])⟩

/-- A result made at once. -/
def answer (s : State) (st : Status) (data : List Byte) : Reply := ⟨s, some (st, data)⟩

/-- A command that stays in execution without a result (R147, R148). -/
def keepWaiting (s : State) : Reply := ⟨s, none⟩

/-- Whether a result is written into the last-result record: READ LAST RESULT never is (R150), and
the OK of a PORT RESET is not written into the record it has emptied (R158). -/
def recorded (k : CommandKind) (st : Status) : Bool :=
  k != .readLastResult && !(k == .portReset && st == .ok)

/-- The tag a last-result record holds: the POST's own, and 0 for any other command (R150). The tag
of a POST whose length is wrong is a free value (log 11). -/
def resultTag (c : Command) : Byte :=
  if c.kind = .postIncrement then
    if c.args.length = 6 then arg c.args 5 else Config.tagOfShortPost c.args
  else 0

/-- Whether a response carries notices that are lost with it (R151). -/
def carriesNotices (k : CommandKind) (st : Status) (data : List Byte) : Bool :=
  k == .readNotices && st == .ok && arg data 0 != 0

/-- A command's result is made: recorded, and sent if its frame is still open. A READ NOTICES whose
frame has already ended loses its notices (R147, R150, R151). -/
def giveResult (p : PortId) (ex : Execution) (st : Status) (data : List Byte) (s : State) : State :=
  onPort p (fun q =>
    { q with
      execution := none
      lastResult :=
        if recorded ex.command.kind st then
          some ⟨kindCode ex.command.kind, resultTag ex.command, st, s.store.applicationCounter⟩
        else q.lastResult
      wire := if ex.frameOpen then .response ⟨some ex.command.kind, st, data⟩ else q.wire
      overrun := q.overrun || (!ex.frameOpen && carriesNotices ex.command.kind st data) }) s

/-- A frame begins on a port: chip select has risen on every earlier frame of the port, so none of
them is answered any more (R145, R148). -/
def openFrame (p : PortId) (s : State) : State :=
  onPort p (fun q =>
    { q with
      execution := q.execution.map fun e => { e with frameOpen := false }
      waiting := q.waiting.map fun e => { e with frameOpen := false }
      wire := .quiet }) s

/-- The port drives something else. -/
def setWire (p : PortId) (w : Wire) (s : State) : State := onPort p (fun q => { q with wire := w }) s

end Sys2Proof.Machine
end

