-- ==== Sys2Proof/Machine/Demand.lean ====
section
/-! DEFINITION. Maximum demand: the feed from the engine, full interval ends, and the commands on the
demand channels (chapter 5). -/

namespace Sys2Proof.Machine

/-- The largest accumulator and maximum (R76). -/
def demandLimit : Nat := 9999999999

/-- The hand-off of an application: added to the accumulator of the channel that tracks the quantity,
saturating at ten digits (R42, R78). -/
def handOff (q : Quantity) (amount : Nat) (s : State) : State :=
  { s with
    accumulators := Vector.ofFn fun c : ChannelId =>
      if s.store.channels[c].quantity = some q then min (s.accumulators[c] + amount) demandLimit
      else s.accumulators[c] }

/-- One channel at a full end: its accumulator compared with the maximum of the active tariff, a
greater one kept with the interval index and a PEAK notice raised, then cleared (R79, R80). -/
def judgeChannel (t : Tariff) (s : State) (c : ChannelId) : State :=
  if s.store.channels[c].quantity = none then s
  else
    let acc := s.accumulators[c]
    let ch := s.store.channels[c]
    let peak := { ch with maxima := ch.maxima.set (tariffIndex t) ⟨acc, s.store.intervalIndex⟩ }
    let s' :=
      if ch.maxima[tariffIndex t].maximum < acc then
        raise (peakNotice c t acc)
          (onStore (fun st => { st with channels := st.channels.set c peak }) s)
      else s
    { s' with accumulators := s'.accumulators.set c 0 }

/-- The full end of an interval: every channel judged under the one active tariff in channel order,
then the index raised and the marker cleared (R79). -/
def fullEnd (s : State) : State :=
  let s := [0, 1, 2, 3].foldl (judgeChannel s.store.activeTariff) s
  { onStore raiseIndex s with intervalPartial := false }

/-- The demand unit at the completion of a close: maxima, their indexes and the interval index to
zero, and the chain loaded in RUN-SUPPLY unless the cause is SETUP (R84). -/
def demandCloseCompletion (cause : Cause) (s : State) : State :=
  let s := onStore (fun st =>
    { st with
      channels := st.channels.map fun ch => { ch with maxima := zeroMaxima }
      intervalIndex := 0 }) s
  if s.supply = .runSupply ∧ cause ≠ .setup then onChain .demand loaded s else s

/-- The demand entries of a close record: one for each non-zero maximum, in channel order and in
tariff order within a channel (R83). -/
def demandEntries (st : Store) : List (List Byte) :=
  (List.finRange 4).flatMap fun c =>
    if st.channels[c].quantity = none then []
    else
      (List.finRange 4).filterMap fun t =>
        let e := st.channels[c].maxima[t]
        if e.maximum = 0 then none else some (demandEntryBytes c t e)

/-- DEFINE DEMAND CHANNEL: the quantity written, and the channel's own accumulator and maxima set to
zero (R86). -/
def doDefineDemandChannel (_p : PortId) (args : List Byte) (s : State) : Reply :=
  match finOfByte 4 (arg args 0), finOrNone 8 (arg args 1) with
  | some c, some q =>
    if (match q with | some x => s.store.quantities[x].defined | none => true) = false then
      refuse s .badArgument
    else if q.isSome ∧ (List.finRange 4).any (fun d => d != c && s.store.channels[d].quantity == q)
    then refuse s .conflict
    else
      let s := onConfiguration (fun st => { st with channels := st.channels.set c ⟨q, zeroMaxima⟩ }) s
      answer { s with accumulators := s.accumulators.set c 0 } .ok []
  | _, _ => refuse s .badArgument

/-- READ DEMAND: the report of one channel (R87). -/
def doReadDemand (_p : PortId) (args : List Byte) (s : State) : Reply :=
  match finOfByte 4 (arg args 0) with
  | none => refuse s .badArgument
  | some c =>
    answer s .ok ([byte c.val, optionCode s.store.channels[c].quantity]
      ++ packedDecimal 5 s.accumulators[c]
      ++ s.store.channels[c].maxima.toList.flatMap
          (fun e => packedDecimal 5 e.maximum ++ bigEndian 2 e.index)
      ++ bigEndian 2 s.store.intervalIndex ++ [boolCode s.intervalPartial]
      ++ bigEndian 4 s.store.applicationCounter.toNat)

end Sys2Proof.Machine
end

