-- ==== Sys2Proof/Machine/Registers.lean ====
section
/-! DEFINITION. Registers of account: what an amount does to a register, period reset, and the commands
on the quantity table and the register table (chapter 1). -/

namespace Sys2Proof.Machine

/-! ### Totals and amounts (R4, R10, R11) -/

/-- A register's total in base units, from its d value digits and its k residue digits (R4). -/
def registerTotal (scale : Nat) (r : RegisterRec) : Nat :=
  digitsToNat (heldValue r) * 10 ^ scale + digitsToNat (heldResidue scale r)

/-- A register's capacity in base units (R4). -/
def capacity (scale : Nat) (r : RegisterRec) : Nat := 10 ^ (r.digits.toNat + scale)

/-- A register with a total, held as value and residue (R4). -/
def withTotal (scale total : Nat) (r : RegisterRec) : RegisterRec :=
  { r with
    value := digitsOfNat 12 (total / 10 ^ scale)
    residue := digitsOfNat 3 (total % 10 ^ scale) }

/-- The WRAP policy: the total modulo the capacity, and whole wraps added to the wrap count, which
saturates at 15 (R10). -/
def applyWrap (scale amount : Nat) (r : RegisterRec) : RegisterRec :=
  let sum := registerTotal scale r + amount
  { withTotal scale (sum % capacity scale r) r with
    wrapCount := BitVec.ofNat 4 (min 15 (r.wrapCount.toNat + sum / capacity scale r)) }

/-- The STOP policy: the sum while it stays below the capacity; else all nines and OVERFLOWED
(R11). -/
def applyStop (scale amount : Nat) (r : RegisterRec) : RegisterRec :=
  let sum := registerTotal scale r + amount
  if sum < capacity scale r then withTotal scale sum r
  else { withTotal scale (capacity scale r - 1) r with state := .overflowed }

/-- What an application makes of a LIVE target (R10, R11). -/
def applyAmount (scale amount : Nat) (r : RegisterRec) : RegisterRec :=
  match r.policy with
  | .wrap => applyWrap scale amount r
  | .stop => applyStop scale amount r

/-- Whether the amount overflows the register: at least one wrap, or the stop (R10, R11). -/
def overflows (scale amount : Nat) (r : RegisterRec) : Bool :=
  decide (capacity scale r ≤ registerTotal scale r + amount)

/-- A register at zero: value, residue and wrap count (R8, R19). -/
def zeroed (r : RegisterRec) : RegisterRec :=
  { r with value := digitsOfNat 12 0, residue := digitsOfNat 3 0, wrapCount := 0 }

/-- Period reset of one register: verified, then zeroed; OVERFLOWED becomes LIVE, SUSPECT stays
(R19). -/
def periodResetRegister (s : State) (i : RegSlot) : State :=
  let r := s.store.registers[i]
  if r.state = .free ∨ r.periodReset = false then s
  else
    let s := verifyRegister .periodReset s i
    let r := zeroed s.store.registers[i]
    putRegister i { r with state := if r.state = .suspect then .suspect else .live } s

/-- Period reset of every register that carries the flag, in slot order (R19). -/
def periodResetAll (s : State) : State := (List.finRange 32).foldl periodResetRegister s

/-! ### READ REGISTER (R17, R18) -/

/-- READ REGISTER: the record is verified, then reported with the application counter (R17, R18). -/
def doReadRegister (_p : PortId) (args : List Byte) (s : State) : Reply :=
  match finOfByte 32 (arg args 0) with
  | none => refuse s .badArgument
  | some i =>
    let s := verifyRegister .read s i
    let r := s.store.registers[i]
    answer s .ok (registerReport i (scaleOf s r.quantity) r s.store.applicationCounter)

/-! ### DEFINE QUANTITY (R2) -/

/-- Whether a register, an enabled pulse input or a demand channel refers to a quantity (R2). -/
def quantityInUse (st : Store) (q : Quantity) : Bool :=
  st.registers.toList.any (fun r => r.state != .free && r.quantity == q)
  || st.pulseDefs.toList.any (fun d => d.enabled && d.quantity == q)
  || st.channels.toList.any (fun c => c.quantity == some q)

/-- DEFINE QUANTITY (R2). An undefined quantity gets scale 0, whatever scale was given. -/
def doDefineQuantity (_p : PortId) (args : List Byte) (s : State) : Reply :=
  match finOfByte 8 (arg args 0), boolOfByte (arg args 1), finOfByte 4 (arg args 2) with
  | some q, some defined, some scale =>
    if quantityInUse s.store q then refuse s .conflict
    else
      answer (onConfiguration (fun st =>
        { st with quantities := st.quantities.set q ⟨defined, if defined then scale.val else 0⟩ })
        s) .ok []
  | _, _, _ => refuse s .badArgument

/-! ### The register edits (R6, R7, R8) -/

/-- Whether a register in a state other than FREE, another than slot `i`, holds a quantity and
selector (R6, R8). -/
def pairTaken (st : Store) (i : RegSlot) (q : Quantity) (sel : BitVec 3) : Bool :=
  (List.finRange 32).any fun j =>
    j != i && st.registers[j].state != .free && st.registers[j].quantity == q
      && st.registers[j].selector == sel

/-- Whether the held fields of slot `i` can stand as a LIVE register (R8). -/
def canStandLive (st : Store) (i : RegSlot) : Bool :=
  let r := st.registers[i]
  st.quantities[r.quantity].defined && decide (r.selector.toNat ≤ 4)
    && decide (6 ≤ r.digits.toNat ∧ r.digits.toNat ≤ 12) && !pairTaken st i r.quantity r.selector

/-- BIND REGISTER (R6). -/
def doBindRegister (_p : PortId) (args : List Byte) (s : State) : Reply :=
  match finOfByte 32 (arg args 0), finOfByte 8 (arg args 1), selectorOfByte (arg args 2),
    inRange 6 12 (arg args 3).toNat, policyOfByte (arg args 4), boolOfByte (arg args 5),
    boolOfByte (arg args 6) with
  | some i, some q, some sel, some d, some pol, some arch, some reset =>
    if s.store.quantities[q].defined = false then refuse s .badArgument
    else if s.store.registers[i].state ≠ .free then refuse s .conflict
    else if pairTaken s.store i q sel then refuse s .conflict
    else
      answer (putRegister i
        { freeRegister with
          state := .live, quantity := q, selector := sel, digits := BitVec.ofNat 4 d,
          policy := pol, archive := arch, periodReset := reset } s) .ok []
  | _, _, _, _, _, _, _ => refuse s .badArgument

/-- UNBIND REGISTER (R7). -/
def doUnbindRegister (_p : PortId) (args : List Byte) (s : State) : Reply :=
  match finOfByte 32 (arg args 0) with
  | none => refuse s .badArgument
  | some i =>
    if s.store.registers[i].state = .free then refuse s .conflict
    else answer (setRegister i freeRegister s) .ok []

/-- SET REGISTER OPTIONS: the record is verified first; the state, value, residue and wrap count are
kept (R7). -/
def doSetRegisterOptions (_p : PortId) (args : List Byte) (s : State) : Reply :=
  match finOfByte 32 (arg args 0), policyOfByte (arg args 1), boolOfByte (arg args 2),
    boolOfByte (arg args 3) with
  | some i, some pol, some arch, some reset =>
    if s.store.registers[i].state = .free then refuse s .conflict
    else
      let s := verifyRegister .edit s i
      answer (putRegister i
        { s.store.registers[i] with policy := pol, archive := arch, periodReset := reset } s) .ok []
  | _, _, _, _ => refuse s .badArgument

/-- CLEAR REGISTER: zero and LIVE, unless FREE or a SUSPECT record that cannot stand (R8). -/
def doClearRegister (_p : PortId) (args : List Byte) (s : State) : Reply :=
  match finOfByte 32 (arg args 0) with
  | none => refuse s .badArgument
  | some i =>
    let r := s.store.registers[i]
    if r.state = .free ∨ (r.state = .suspect ∧ canStandLive s.store i = false) then
      refuse s .conflict
    else answer (putRegister i { zeroed r with state := .live } s) .ok []

/-- ACCEPT REGISTER: a SUSPECT register LIVE again with its fields as held (R8). A record that mismatched
while it was SUSPECT already may hold cells that are no decimal digits, and holds them on (R16, log 33). -/
def doAcceptRegister (_p : PortId) (args : List Byte) (s : State) : Reply :=
  match finOfByte 32 (arg args 0) with
  | none => refuse s .badArgument
  | some i =>
    let r := s.store.registers[i]
    if r.state ≠ .suspect ∨ canStandLive s.store i = false then refuse s .conflict
    else answer (putRegister i { r with state := .live } s) .ok []

end Sys2Proof.Machine
end

