-- ==== Sys2Proof/Machine/Increments.lean ====
section
/-! DEFINITION. The increment path: POST INCREMENT, the intake arbiter, and the applications of the
accumulation engine (chapter 2). -/

namespace Sys2Proof.Machine

/-! ### POST INCREMENT (R30, R31) -/

/-- The largest amount of an increment (R21). -/
def amountLimit : Nat := 99999999

/-- The quantity of a POST: in Q0 to Q7 and defined (R30 step 3). -/
def postQuantity (s : State) (args : List Byte) : Option Quantity :=
  (finOfByte 8 (arg args 0)).bind fun q => if s.store.quantities[q].defined then some q else none

/-- The amount of a POST (R30 step 4, R162). -/
def postAmount (args : List Byte) : Option Nat := packedInRange 1 amountLimit (argBytes args 1 4)

/-- POST INCREMENT, after its supply and mode checks: the arguments, then the post mask; then it
waits at the arbiter (R30). -/
def doPostIncrement (p : PortId) (args : List Byte) (s : State) : Reply :=
  match postQuantity s args, postAmount args with
  | some q, some _ =>
    if s.store.rights[p].postMask.getLsbD q.val then keepWaiting s else refuse s .noRight
  | _, _ => refuse s .badArgument

/-! ### The increment queue and the arbiter (R22, R23, R25, R28) -/

/-- The most entries the queue holds (R22). -/
def queueLimit : Nat := 32

/-- The highest fill at which a port's entry is placed (R23). -/
def portFillLimit : Nat := 27

/-- An entry placed at the tail, stamped with the active tariff (R28). -/
def place (q : Quantity) (amount : Nat) (source : Requester) (s : State) : State :=
  { s with queue := s.queue ++ [⟨q, amount, s.store.activeTariff, source⟩] }

/-- Whether a port has a POST waiting at the arbiter (R25, R26). -/
def postWaits (s : State) (p : PortId) : Bool :=
  match s.ports[p].execution with
  | some ex => ex.command.kind == .postIncrement
  | none => false

/-- The requesters in cyclic order after the one the pointer names (R25). -/
def requestersAfter : Requester → List Requester
  | .converter => [.port 0, .port 1, .port 2, .converter]
  | .port 0 => [.port 1, .port 2, .converter, .port 0]
  | .port 1 => [.port 2, .converter, .port 0, .port 1]
  | .port 2 => [.converter, .port 0, .port 1, .port 2]

/-! ### The engine's service points (R33, R34) -/

/-- Whether the engine chooses work at this moment: READY, in RUN or ENTERING_SETUP, or draining
(R33, R34). -/
def atServicePoint (s : State) : Bool :=
  s.engine == .ready && (s.store.mode != .setup || s.supply == .drain)

/-- Whether a close request waits for the engine (R33). -/
def closeWaits (s : State) : Bool := s.closeState == .requested

/-! ### Applications (R9, R35, R36) -/

/-- The register that holds a pair: the one that is not SUSPECT, else the lowest SUSPECT one
(R35). -/
def targetFor (st : Store) (q : Quantity) (sel : BitVec 3) : Option RegSlot :=
  let bound := (List.finRange 32).filter fun i =>
    st.registers[i].state != .free && st.registers[i].quantity == q
      && st.registers[i].selector == sel
  match bound.find? (fun i => st.registers[i].state != .suspect) with
  | some i => some i
  | none => bound.head?

/-- The targets of an entry: the register of its tariff and the ALL register (R35). They stand lower slot
first, in which order they are verified and their SUSPECT notices raised: no rule orders those, DESIGN CHOICE
(log 34). -/
def targetsOf (st : Store) (e : Increment) : List RegSlot :=
  match targetFor st e.quantity (tariffSelector e.stamp), targetFor st e.quantity selectorAll with
  | some i, some j => if i < j then [i, j] else [j, i]
  | some i, none => [i]
  | none, some j => [j]
  | none, none => []

/-- The head of the queue removed, its targets chosen and verified, the lower slot first (R35, R9,
log 34). -/
def startApplication (e : Increment) (rest : List Increment) (s : State) : State :=
  let slots := targetsOf s.store e
  let s := slots.foldl (verifyRegister .apply) { s with queue := rest }
  { s with engine := .applying e (slots.map fun i => ⟨i, s.store.registers[i]⟩) }

/-- Whether a target takes the amount at completion: LIVE when the application began, and not made
SUSPECT since (R9, R12). -/
def takesAmount (s : State) (t : Target) : Bool :=
  t.record.state == .live && s.store.registers[t.slot].state != .suspect

/-- A target committed (R9). -/
def commitTarget (amount : Nat) (s : State) (t : Target) : State :=
  if takesAmount s t then
    putRegister t.slot (applyAmount (scaleOf s t.record.quantity) amount t.record) s
  else s

/-- The OVERFLOW notice of a target, if its application overflowed it (R13). -/
def overflowOf (s : State) (amount : Nat) (t : Target) : Option Notice :=
  let scale := scaleOf s t.record.quantity
  if takesAmount s t ∧ overflows scale amount t.record then
    some (overflowNotice t.slot (applyAmount scale amount t.record))
  else none

/-- The completion of an application: the targets committed, the OVERFLOW notices raised, the counter
raised, the amount handed to the demand unit, and the engine READY (R36, R41, R42). -/
def completeApplication (e : Increment) (targets : List Target) (s : State) : State :=
  let notices := targets.filterMap (overflowOf s e.amount)
  let s := targets.foldl (commitTarget e.amount) s
  let s := notices.foldl (fun s n => raise n s) s
  let s := onStore (fun st => { st with applicationCounter := st.applicationCounter + 1 }) s
  { handOff e.quantity e.amount s with engine := .ready }

end Sys2Proof.Machine
end

