-- ==== Sys2Proof/Machine/Periods.lean ====
section
/-! DEFINITION. Period close and the period log: the requests, the CLOSEIN line, the record, the
completion, and the commands on the log (chapter 6). -/

namespace Sys2Proof.Machine

/-! ### REQUEST CLOSE and SET CLOSE OPTIONS (R91, R94) -/

/-- REQUEST CLOSE, after its right check: the close state and the inhibit; a close taken with cause
COMMAND, and the period number answered (R94). -/
def doRequestClose (p : PortId) (_args : List Byte) (s : State) : Reply :=
  if s.store.mode = .enteringSetup ∨ s.closeState ≠ .idle then refuse s .closeBusy
  else if inhibitActive s then refuse s .tooSoon
  else
    answer (takeClose .command (some p) s) .accepted (bigEndian 2 s.store.periodNumber.toNat)

/-- SET CLOSE OPTIONS (R91). -/
def doSetCloseOptions (_p : PortId) (args : List Byte) (s : State) : Reply :=
  match lineModeOfByte (arg args 0), boolOfByte (arg args 1), boolOfByte (arg args 2) with
  | some m, some overdue, some inhibit =>
    answer (onConfiguration (fun st => { st with closeOptions := ⟨m, overdue, inhibit⟩ }) s) .ok []
  | _, _, _ => refuse s .badArgument

/-! ### The CLOSEIN line (R95 to R97) -/

/-- A change of the recognized level. -/
inductive LineEdge where
  | falling | rising
  deriving DecidableEq, Repr

/-- Whether CLOSEIN is sampled (R95). -/
def closeinSampled (s : State) : Bool :=
  s.store.closeOptions.lineMode != .off && s.store.mode != .setup && s.supply == .runSupply

def levelOf (high : Bool) : LineLevel := if high then .high else .low

/-- The run count that a differing sample leads to (R95). -/
def runLength (r : Recognizer) (high : Bool) : Nat :=
  if 0 < r.runCount ∧ r.runHigh = high then r.runCount + 1 else 1

/-- The recognizer after one sample (R95). -/
def recognized (r : Recognizer) (high : Bool) : Recognizer :=
  if r.level = levelOf high then { r with runCount := 0 }
  else if 3 ≤ runLength r high then ⟨levelOf high, high, 0⟩
  else { r with runHigh := high, runCount := runLength r high }

/-- The edge that one sample recognizes: none while the level is unknown (R95). -/
def edgeOf (r : Recognizer) (high : Bool) : Option LineEdge :=
  match r.level, (recognized r high).level with
  | .high, .low => some .falling
  | .low, .high => some .rising
  | _, _ => none

/-- A recognized falling edge: the latch is set, and acted on by the line mode (R96, R97). -/
def fallingEdge (s : State) : State := examineLatch { s with latch := true }

/-- A recognized rising edge: in LEVEL mode the latch is cleared (R96, R97). -/
def risingEdge (s : State) : State :=
  if s.store.closeOptions.lineMode = .level then { s with latch := false } else s

/-- One sample of CLOSEIN, with the edge it brings about (R95). -/
def sampleCloseIn (high : Bool) (s : State) : State :=
  if closeinSampled s then
    let s' := { s with recognizer := recognized s.recognizer high }
    match edgeOf s.recognizer high with
    | some .falling => fallingEdge s'
    | some .rising => risingEdge s'
    | none => s'
  else s

/-! ### The record (R103 to R106, R170) -/

/-- The largest number of records and of bytes in the log (R106). -/
def logRecordLimit : Nat := 32
def logByteLimit : Nat := 2048

/-- Whether a register is entered in a close record (R105). -/
def archived (st : Store) (i : RegSlot) : Bool :=
  st.registers[i].state != .free && st.registers[i].archive

/-- Every archived register's check word verified (R103). No rule orders the verifications and their SUSPECT
notices: slot order, DESIGN CHOICE (log 34). -/
def verifyArchived (s : State) : State :=
  (List.finRange 32).foldl
    (fun s i => if archived s.store i then verifyRegister .close s i else s) s

/-- The register entries of a record, in slot order (R105). -/
def registerEntries (st : Store) : List (List Byte) :=
  ((List.finRange 32).filter (archived st)).map fun i => registerEntryBytes i st.registers[i]

/-- The first twelve bytes of a record's header (R104, R170). -/
def recordHeader (st : Store) (c : CurrentClose) (nRegisters nDemand : Nat) : List Byte :=
  bigEndian 2 st.periodNumber.toNat
  ++ [byte (causeNat c.cause * 16 + (match c.requester with | some p => p.val | none => 15)),
      tariffCode st.activeTariff, byte nRegisters, byte nDemand]
  ++ bigEndian 4 st.applicationCounter.toNat ++ bigEndian 2 st.periodDuration

/-- The record of a close, built from the committed store (R103 to R105, R83). -/
def buildRecord (st : Store) (c : CurrentClose) : List Byte :=
  let registers := registerEntries st
  let demand := demandEntries st
  recordBytes (recordHeader st c registers.length demand.length) (registers ++ demand).flatten

/-- The bytes of a list of records. -/
def bytesUsed (es : List LogEntry) : Nat := (es.map (·.size)).sum

/-- The records that stay when room is made for one of a size: removed from the oldest end until at
most 31 are left and the bytes fit (R106). -/
def trimmed (size : Nat) : List LogEntry → List LogEntry
  | [] => []
  | e :: es =>
    if (e :: es).length < logRecordLimit ∧ bytesUsed (e :: es) + size ≤ logByteLimit then e :: es
    else trimmed size es

/-- The engine takes the close: WRITING, the record built and room made for it (R39, R103). -/
def startWriting (c : CurrentClose) (s : State) : State :=
  let s := verifyArchived s
  let record := buildRecord s.store c
  let kept := trimmed record.length s.store.log.entries
  let removed := s.store.log.entries.length - kept.length
  let s := if removed = 0 then s else onStore (fun st => { st with log := logOf kept }) s
  { s with closeState := .writing, engine := .closing, building := some ⟨record, removed⟩ }

/-! ### The completion (R109, R110, R182) -/

/-- The entry to SETUP within the completion of a SETUP close: the mode, the engine, the chains, and
the claim and DONE for a requester that has not been reset, none of it in drain (R140, R182,
R183). -/
def enterSetup (closed : BitVec 16) (s : State) : State :=
  let s := onStore (fun st => { st with mode := .setup }) { s with engine := .halted }
  let s := onChain .demand held (onChain .inhibit held (onChain .overdue held s))
  let s' := { s with reopen := none }
  match s.reopen with
  | some ⟨p, true⟩ =>
    if s.supply = .runSupply then offer p (doneCloseNotice .reopen closed) { s' with claim := some p }
    else s'
  | _ => s'

/-- DONE for a close requested by command, if it is still owed (R109 step 8, R110). -/
def closeDone (c : CurrentClose) (closed : BitVec 16) (s : State) : State :=
  match c.cause, c.requester, s.doneOwed with
  | .command, some p, true => offer p (doneCloseNotice .requestClose closed) s
  | _, _, _ => s

/-- The record joins the newest end of the log (R109 step 1). -/
def appendRecord (bytes : List Byte) (s : State) : State :=
  onStore (fun st => { st with log := logOf (st.log.entries ++ [⟨bytes.length, false, bytes⟩]) }) s

/-- Steps 4 to 6 of the completion: the number, the duration, the chains (R109). -/
def startPeriod (s : State) : State :=
  let s := onStore (fun st =>
    { st with periodNumber := st.periodNumber + 1, periodDuration := 0 }) s
  let s := onChain .overdue loaded s
  if s.store.closeOptions.inhibitEnabled then onChain .inhibit loaded s else s

/-- The completion of a close, its parts in order (R109). -/
def completeClose (c : CurrentClose) (b : Building) (s : State) : State :=
  let closed := s.store.periodNumber
  let s := periodResetAll (appendRecord b.bytes s)
  let s := startPeriod (demandCloseCompletion c.cause s)
  let s := raise (closedNotice c.cause closed c.requester b.removed) s
  let s := closeDone c closed s
  let s := { s with
    closeState := .idle, currentClose := none, doneOwed := false, building := none }
  if c.cause = .setup then enterSetup closed s else examineLatch { s with engine := .ready }

/-! ### READ LOG and CLEAR LOG (R113, R115) -/

/-- Which record an argument selects, counted back from the newest (R107, R113); the outer none is
BAD_ARGUMENT. -/
def selectedBack (st : Store) (args : List Byte) : Option Nat :=
  let v := fromBigEndian (argBytes args 1 2)
  if arg args 0 = 0 then inRange 0 31 v
  else if arg args 0 = 1 then some ((st.periodNumber - 1 - BitVec.ofNat 16 v).toNat)
  else none

/-- A record marked damaged in the index (R108). -/
def markDamaged (k : Nat) (l : PeriodLog) : PeriodLog :=
  logOf (l.entries.modify k fun e => { e with damaged := true })

/-- READ LOG: one chunk of one record, its check verified at the read (R113). -/
def doReadLog (_p : PortId) (args : List Byte) (s : State) : Reply :=
  match selectedBack s.store args, inRange 0 445 (fromBigEndian (argBytes args 3 2)) with
  | some back, some offset =>
    let entries := s.store.log.entries
    if back < entries.length then
      let k := entries.length - 1 - back
      match entries[k]? with
      | none => refuse s .notFound
      | some e =>
        let number := bigEndian 2 (s.store.periodNumber - 1 - BitVec.ofNat 16 back).toNat
        let size := bigEndian 2 e.size
        if e.damaged then answer s .damaged (number ++ size)
        else if recordCheckOk e.bytes = false then
          answer (onStore (fun st => { st with log := markDamaged k st.log }) s) .damaged
            (number ++ size)
        else if e.size ≤ offset then refuse s .badArgument
        else answer s .ok (number ++ size ++ bigEndian 2 offset ++ argBytes e.bytes offset 48)
    else refuse s .notFound
  | _, _ => refuse s .badArgument

/-- CLEAR LOG: every record and the index discarded (R115). -/
def doClearLog (_p : PortId) (_args : List Byte) (s : State) : Reply :=
  answer (onStore (fun st => { st with log := logOf [] }) s) .ok []

end Sys2Proof.Machine
end

