-- ==== Sys2Proof/Machine/Pulses.lean ====
section
/-! DEFINITION. Pulse inputs: the front end, the converter, and the commands on an input
(chapter 3). -/

namespace Sys2Proof.Machine

/-! ### The front end (R48 to R54) -/

/-- The largest pending count (R47). -/
def pendingLimit : Nat := 65535

/-- A judged pulse counted: the pending count raised, or the pulse lost at 65535 with the flag set,
which raises one PULSE notice as it changes (R53, R54). -/
def countPulse (n : InputId) (s : State) : State :=
  let c := s.store.pulseCounts[n]
  if c.pending < pendingLimit then onCount n (fun c => { c with pending := c.pending + 1 }) s
  else if c.saturated then s
  else
    raise (pulseNotice n s.store.pulseDefs[n].quantity c.noise c.reject)
      (onCount n (fun c => { c with saturated := true }) s)

/-- The judgement at the third verification sample (R50). A noisy pulse raises the noise count
before it is counted, DESIGN CHOICE (log 22). -/
def judgePulse (n : InputId) (s : State) : State :=
  match s.inputs[n].samplesActive with
  | 0 | 1 =>
    onInput n (fun i => { i with frontEnd := .armed })
      (onCount n (fun c => { c with reject := min (c.reject + 1) 255 }) s)
  | 2 =>
    onInput n (fun i => { i with frontEnd := .latched })
      (countPulse n (onCount n (fun c => { c with noise := min (c.noise + 1) 255 }) s))
  | _ => onInput n (fun i => { i with frontEnd := .latched }) (countPulse n s)

/-- The level of a pin judged by the input's polarity (R48). -/
def judgedActive (d : PulseDef) (high : Bool) : Bool := high == d.activeHigh

/-- Whether the next sample tick is the third verification sample (R50). -/
def judgementDue (d : PulseDef) (i : InputRun) : Bool :=
  i.frontEnd == .verifying && i.samplesTaken == 2 && i.elapsed + 1 == d.spacing * 3

/-- An inactive sample of the rearm: the count raised, and ARMED when it reaches the rearm time
(R51, R52). -/
def rearmSample (d : PulseDef) (count : Nat) (i : InputRun) : InputRun :=
  if d.rearmTime ≤ count then { i with frontEnd := .armed, lastActive := false, rearmCount := 0 }
  else { i with frontEnd := .rearming, lastActive := false, rearmCount := count }

/-- What a sample makes of an input outside its judgement (R49 to R52). -/
def sampled (d : PulseDef) (active : Bool) (i : InputRun) : InputRun :=
  match i.frontEnd with
  | .disabled => i
  | .armed =>
    if active ∧ i.lastActive = false then
      { i with frontEnd := .verifying, lastActive := true, samplesTaken := 0, samplesActive := 0,
               elapsed := 0 }
    else { i with lastActive := active }
  | .verifying =>
    if i.elapsed + 1 = d.spacing * (i.samplesTaken + 1) then
      { i with lastActive := active, elapsed := i.elapsed + 1, samplesTaken := i.samplesTaken + 1,
               samplesActive := i.samplesActive + active.toNat }
    else { i with lastActive := active, elapsed := i.elapsed + 1 }
  | .latched =>
    if active then { i with lastActive := true } else rearmSample d 1 i
  | .rearming =>
    if active then { i with frontEnd := .latched, lastActive := true, rearmCount := 0 }
    else rearmSample d (i.rearmCount + 1) i

/-- One sample of one input, with the judgement where it is due (R48, R50). A disabled input is not
sampled. -/
def sampleInput (n : InputId) (high : Bool) (s : State) : State :=
  let d := s.store.pulseDefs[n]
  if d.enabled then
    let due := judgementDue d s.inputs[n]
    let s := onInput n (sampled d (judgedActive d high)) s
    if due then judgePulse n s else s
  else s

/-- Whether an inactive sample would complete the rearm of an input (R51, R52). -/
def rearmDue (d : PulseDef) (i : InputRun) : Bool :=
  d.enabled && ((i.frontEnd == .rearming && decide (d.rearmTime ≤ i.rearmCount + 1))
    || (i.frontEnd == .latched && decide (d.rearmTime ≤ 1)))

/-- An input as restore and a definition leave it: ARMED with its last level taken as active, or
DISABLED; verification and rearm cleared (R49, R55, R62). -/
def restarted (enabled : Bool) (i : InputRun) : InputRun :=
  { i with
    frontEnd := if enabled then .armed else .disabled
    lastActive := enabled
    samplesTaken := 0
    samplesActive := 0
    elapsed := 0
    rearmCount := 0
    eligible := false }

/-- Every input restarted (R55). -/
def restartInputs (s : State) : State :=
  { s with inputs := Vector.ofFn fun n : InputId =>
      restarted s.store.pulseDefs[n].enabled s.inputs[n] }

/-! ### The converter (R27, R56 to R60) -/

/-- Whether the converter runs: RUN, or ENTERING_SETUP before the SETUP close is placed, in
RUN-SUPPLY (R27, R56). -/
def converterRuns (s : State) : Bool :=
  (s.store.mode == .run || (s.store.mode == .enteringSetup && s.closeState == .idle))
    && s.supply == .runSupply

/-- Whether an input is eligible for conversion (R57). -/
def eligible (s : State) (n : InputId) : Bool :=
  s.store.pulseDefs[n].enabled
    && (decide (s.store.pulseDefs[n].threshold ≤ s.store.pulseCounts[n].pending)
        || s.inputs[n].eligible)
    && !(s.store.mode == .enteringSetup && s.inputs[n].served)

/-- Whether some input is eligible. -/
def anyEligible (s : State) : Bool := (List.finRange 8).any (eligible s)

/-- Whether the converter presents a request to the arbiter (R25, R27). -/
def converterRequests (s : State) : Bool :=
  converterRuns s && anyEligible s && decide (s.queue.length < queueLimit)

/-- Whether a requester waits at the arbiter (R25). -/
def requesterWaits (s : State) : Requester → Bool
  | .port p => postWaits s p
  | .converter => converterRequests s

/-- The requester the arbiter grants next: the first that waits, in cyclic order after the pointer
(R25). -/
def nextGrant (s : State) : Option Requester :=
  (requestersAfter s.arbiterPointer).find? (requesterWaits s)

/-- The converter stops: all eligibility marks are cleared (R56). -/
def stopConverter (s : State) : State :=
  { s with inputs := s.inputs.map fun i => { i with eligible := false } }

/-- The second tick at the converter: a mark for each enabled input with a non-zero pending count,
while it runs (R57). -/
def setMarks (s : State) : State :=
  if converterRuns s then
    { s with inputs := Vector.ofFn fun n : InputId =>
        if s.store.pulseDefs[n].enabled ∧ s.store.pulseCounts[n].pending ≠ 0 then
          { s.inputs[n] with eligible := true }
        else s.inputs[n] }
  else s

/-- The inputs in cyclic order after one (R58). -/
def inputsAfter (n : InputId) : List InputId :=
  (List.finRange 8).map fun k => n + 1 + k

/-- The most pulses of one conversion (R59). -/
def conversionLimit : Nat := 9999

/-- The pulses one conversion takes (R59 step 1). -/
def conversionPulses (c : PulseCount) : Nat := min c.pending conversionLimit

/-- P = c × m + r (R59 step 2). -/
def conversionProduct (d : PulseDef) (c : PulseCount) : Nat :=
  conversionPulses c * d.mantissa + c.remainder

/-- One conversion of input `n`: the pulses taken, the amount placed if it is 1 or more, the
remainder kept, the mark cleared, the served mark set in ENTERING_SETUP (R57, R59, R60). A count above 9999
that leaves less than the threshold is not eligible any more, by R57 and R59 step 5 and against R58's "stays
eligible": DESIGN CHOICE (log 36). -/
def convert (n : InputId) (s : State) : State :=
  let d := s.store.pulseDefs[n]
  let c := s.store.pulseCounts[n]
  let amount := conversionProduct d c / 10 ^ d.fraction
  let s := onCount n (fun c =>
    { c with
      pending := c.pending - conversionPulses c
      remainder := conversionProduct d c % 10 ^ d.fraction }) s
  let s := if 1 ≤ amount then place d.quantity amount .converter s else s
  let s := onInput n (fun i =>
    { i with
      eligible := false
      served := i.served || s.store.mode == .enteringSetup }) s
  { s with converterPointer := n, arbiterPointer := .converter }

/-! ### DEFINE PULSE INPUT and READ PULSE INPUT (R61 to R63) -/

/-- The definition and the discard flag that the arguments of DEFINE PULSE INPUT give (R61 check 1,
R45). -/
def parsePulseDef (args : List Byte) : Option (PulseDef × Bool) := do
  let enabled ← boolOfByte (arg args 1)
  let activeHigh ← boolOfByte (arg args 2)
  let pullUp ← boolOfByte (arg args 3)
  let spacing ← inRange 1 8 (arg args 4).toNat
  let rearmTime ← inRange 1 255 (arg args 5).toNat
  let quantity ← finOfByte 8 (arg args 6)
  let mantissa ← packedInRange 1 9999 (argBytes args 7 2)
  let fraction ← inRange 0 3 (arg args 9).toNat
  let threshold ← inRange 1 255 (arg args 10).toNat
  let discard ← boolOfByte (arg args 11)
  return (⟨enabled, activeHigh, pullUp, spacing, rearmTime, quantity, mantissa, fraction,
    threshold⟩, discard)

/-- DEFINE PULSE INPUT (R61, R62). The answer carries the pending count and remainder discarded. -/
def doDefinePulseInput (_p : PortId) (args : List Byte) (s : State) : Reply :=
  match finOfByte 8 (arg args 0), parsePulseDef args with
  | some n, some (d, discard) =>
    let c := s.store.pulseCounts[n]
    if d.enabled ∧ s.store.quantities[d.quantity].defined = false then refuse s .badArgument
    else if discard = false ∧ (c.pending ≠ 0 ∨ c.remainder ≠ 0) then refuse s .conflict
    else
      let s := onConfiguration (fun st =>
        { st with
          pulseDefs := st.pulseDefs.set n d
          pulseCounts := st.pulseCounts.set n zeroPulseCount }) s
      answer (onInput n (restarted d.enabled) s) .ok
        (bigEndian 2 c.pending ++ packedDecimal 2 c.remainder)
  | _, _ => refuse s .badArgument

/-- READ PULSE INPUT: the report as it stood, and the clear (R63). -/
def doReadPulseInput (_p : PortId) (args : List Byte) (s : State) : Reply :=
  match finOfByte 8 (arg args 0), boolOfByte (arg args 1) with
  | some n, some clear =>
    let report := pulseReport n s.store.pulseDefs[n] s.store.pulseCounts[n] s.inputs[n]
    let s := if clear then
      onCount n (fun c => { c with noise := 0, reject := 0, saturated := false }) s else s
    answer s .ok report
  | _, _ => refuse s .badArgument

end Sys2Proof.Machine
end

