-- ==== Sys2Proof/Machine/Snapshots.lean ====
section
/-! DEFINITION. Snapshots: opening, capturing, reading, renewing and releasing a slot, and the lease
(chapter 7). -/

namespace Sys2Proof.Machine

/-! ### SNAPSHOT OPEN (R119, R120) -/

/-- The register list of an OPEN: 1 to 16 distinct slots in 0 to 31 (R119 steps 1 to 4). -/
def openList (args : List Byte) : Option (List RegSlot) :=
  let named := args.drop 1
  if 1 ≤ named.length ∧ named.length ≤ 16 ∧ named.Nodup then named.mapM (finOfByte 32) else none

/-- The lowest FREE slot (R120). -/
def lowestFree (s : State) : Option SnapId := (List.finRange 4).find? fun i => s.slots[i] == .free

/-- SNAPSHOT OPEN, after its right check: the list and the lease, the slot limit, the pool (R119); then
the slot is PENDING and its capture request is placed (R120). -/
def doSnapshotOpen (p : PortId) (args : List Byte) (s : State) : Reply :=
  match openList args, inRange 1 255 (arg args 0).toNat with
  | some list, some lease =>
    if 2 ≤ slotCount s p then refuse s .slotLimit
    else
      match lowestFree s with
      | none => refuse s .noSlot
      | some i =>
        answer { s with
          slots := s.slots.set i (.pending ⟨p, list, lease⟩)
          captureQueue := s.captureQueue ++ [i] } .accepted [byte i.val, byte list.length]
  | _, _ => refuse s .badArgument

/-! ### The capture (R38, R121, R122) -/

/-- Whether the engine takes a capture request at this moment: at a service point at which no close
waits, or HALTED in SETUP (R33, R34). -/
def captureTaken (s : State) : Bool :=
  (atServicePoint s && !closeWaits s) || (s.store.mode == .setup && s.engine == .halted)

/-- What OPEN wrote into a slot that is not FREE. -/
def openedOf : SnapSlot → Option Opened
  | .free => none
  | .pending o => some o
  | .held o _ _ _ => some o

/-- The stamp of a capture or the counterpart of a close (R117). -/
def stampOf (st : Store) : Stamp := ⟨st.applicationCounter, st.periodNumber, st.activeTariff⟩

/-- The engine takes the oldest capture request: the listed registers verified and copied, with the stamp
(R38, R122). No rule orders the verifications and their SUSPECT notices: list order, DESIGN CHOICE (log
34). -/
def startCapture (i : SnapId) (list : List RegSlot) (s : State) : State :=
  let s := list.foldl (verifyRegister .capture) s
  let copy (j : RegSlot) : CapturedEntry :=
    capturedEntry j (scaleOf s s.store.registers[j].quantity) s.store.registers[j]
  { s with engine := .capturing i false (list.map copy) (stampOf s.store) }

/-- The copies reach the snapshot unit: the slot HELD with its full lease and the DONE notice, or
nothing where the request was withdrawn (R121 to R123). -/
def arriveCapture (i : SnapId) (withdrawn : Bool) (copies : List CapturedEntry) (stamp : Stamp)
    (s : State) : State :=
  match withdrawn, s.slots[i] with
  | false, .pending o =>
    offer o.holder (doneCaptureNotice i stamp.counter)
      { s with slots := s.slots.set i (.held o o.lease copies stamp) }
  | _, _ => s

/-! ### SNAPSHOT READ, RENEW and RELEASE (R125 to R127) -/

/-- The data of a SNAPSHOT READ (R125, R169). -/
def readSlotData (i : SnapId) (o : Opened) (remaining : Nat) (entries : List CapturedEntry)
    (stamp : Stamp) (first count : Nat) : List Byte :=
  let part := (entries.drop first).take count
  [byte i.val, byte o.list.length, byte remaining] ++ bigEndian 4 stamp.counter.toNat
  ++ bigEndian 2 stamp.period.toNat ++ [tariffCode stamp.tariff, byte first, byte part.length]
  ++ part.flatMap capturedEntryBytes

/-- SNAPSHOT READ (R125). -/
def doSnapshotRead (p : PortId) (args : List Byte) (s : State) : Reply :=
  match finOfByte 4 (arg args 0), inRange 0 15 (arg args 1).toNat,
    inRange 1 4 (arg args 2).toNat with
  | some i, some first, some count =>
    if slotHolder s.slots[i] ≠ some p then refuse s .notHeld
    else
      match s.slots[i] with
      | .held o remaining entries stamp =>
        if first < o.list.length then
          answer s .ok (readSlotData i o remaining entries stamp first count)
        else refuse s .badArgument
      | .free | .pending _ => refuse s .notReady
  | _, _, _ => refuse s .badArgument

/-- SNAPSHOT RENEW: the remaining lease set to the lease (R126). -/
def doSnapshotRenew (p : PortId) (args : List Byte) (s : State) : Reply :=
  match finOfByte 4 (arg args 0) with
  | none => refuse s .badArgument
  | some i =>
    if slotHolder s.slots[i] ≠ some p then refuse s .notHeld
    else
      match s.slots[i] with
      | .held o _ entries stamp =>
        answer { s with slots := s.slots.set i (.held o o.lease entries stamp) } .ok
          [byte i.val, byte o.lease]
      | .free | .pending _ => refuse s .notReady

/-- SNAPSHOT RELEASE: the slot freed, its request withdrawn (R127). -/
def doSnapshotRelease (p : PortId) (args : List Byte) (s : State) : Reply :=
  match finOfByte 4 (arg args 0) with
  | none => refuse s .badArgument
  | some i =>
    if slotHolder s.slots[i] ≠ some p then refuse s .notHeld else answer (freeSlot s i) .ok []

/-! ### Leases (R128) -/

/-- Whether the next second tick brings a slot's remaining lease to 0. -/
def leaseDue (x : SnapSlot) : Bool :=
  match x with
  | .held _ remaining _ _ => decide (remaining ≤ 1)
  | .free | .pending _ => false

/-- The second tick at one slot: a HELD slot's remaining lease lowered by one; at 0 the slot is freed
and LEASE sent to the holder, whatever its mask (R128). -/
def leaseTick (s : State) (i : SnapId) : State :=
  match s.slots[i] with
  | .held o remaining entries stamp =>
    if remaining ≤ 1 then offer o.holder (leaseNotice i o.lease stamp.counter) (freeSlot s i)
    else { s with slots := s.slots.set i (.held o (remaining - 1) entries stamp) }
  | .free | .pending _ => s

end Sys2Proof.Machine
end

