-- ==== Sys2Proof/Machine/Tariffs.lean ====
section
/-! DEFINITION. Tariffs: a tariff change, SET TARIFF, the TSEL lines, SET TARIFF SOURCE (chapter 4). -/

namespace Sys2Proof.Machine

/-- A tariff change, whichever route brought it: the active tariff, the partial end of the demand
interval, and the TARIFF notice (R71, R72). -/
def tariffChange (new : Tariff) (source : SourceMode) (port : Option PortId) (s : State) : State :=
  let old := s.store.activeTariff
  raise (tariffNotice new old source port)
    (partialEnd (onStore (fun st => { st with activeTariff := new }) s))

/-- SET TARIFF, after its mode and right checks: a change where the named tariff is not the active
one; the answer carries the tariffs before and after (R67, R68). -/
def doSetTariff (p : PortId) (args : List Byte) (s : State) : Reply :=
  match tariffOfByte (arg args 0) with
  | none => refuse s .badArgument
  | some t =>
    let old := s.store.activeTariff
    let s := if t = old then s else tariffChange t .command (some p) s
    answer s .ok [tariffCode old, tariffCode t]

/-- The tariff the lines select: TSEL1 the higher digit, a high level reading as 1 (R69). -/
def selectedTariff (tsel1 tsel0 : Bool) : Tariff :=
  match tsel1, tsel0 with
  | false, false => .t1
  | false, true => .t2
  | true, false => .t3
  | true, true => .t4

/-- Whether the TSEL lines are sampled (R69). -/
def linesSampled (s : State) : Bool :=
  s.store.sourceMode == .lines && s.store.mode != .setup && s.supply == .runSupply

/-- The tariff unit at a second tick: two successive samples that agree and differ from the active
tariff make a change; the history then holds the sample (R69). -/
def sampleLines (tsel1 tsel0 : Bool) (s : State) : State :=
  if linesSampled s then
    let v := selectedTariff tsel1 tsel0
    let s' :=
      if s.lineHistory = some v ∧ v ≠ s.store.activeTariff then tariffChange v .lines none s else s
    { s' with lineHistory := some v }
  else s

/-- SET TARIFF SOURCE: the source mode, and the active tariff where the flag asks, without a tariff
change (R74). -/
def doSetTariffSource (_p : PortId) (args : List Byte) (s : State) : Reply :=
  match sourceOfByte (arg args 0), boolOfByte (arg args 1) with
  | some m, some setIt =>
    match (if setIt then tariffOfByte (arg args 2) else some s.store.activeTariff) with
    | none => refuse s .badArgument
    | some t =>
      answer (onConfiguration (fun st => { st with sourceMode := m, activeTariff := t }) s) .ok
        [byte (sourceNat m), tariffCode t]
  | _, _ => refuse s .badArgument

end Sys2Proof.Machine
end

