-- ==== Sys2Proof/Machine/TimeBase.lean ====
section
/-! DEFINITION. The time base: the counting of chains, their expiries at the owners, the three ticks,
and DEFINE CHAIN (chapter 8). -/

namespace Sys2Proof.Machine

/-! ### Counting and expiry (R136, R138, R139) -/

/-- The count a down counter of `n` segments goes to (R136). -/
def countedDown (n count : Nat) : Nat := if count = 0 then 4096 ^ n - 1 else count - 1

/-- A RUNNING chain after one of its ticks: a reload chain reloads at 0, a one-shot chain is EXPIRED
(R138). -/
def chainCounted (f : ChainFn) (c : Chain) : Chain :=
  if countedDown c.length c.count = 0 then
    match f with
    | .demand => { c with count := c.reload }
    | .overdue | .inhibit => { c with count := 0, state := .expired }
  else { c with count := countedDown c.length c.count }

/-- An OVERDUE expiry at the period unit (R99). In RESTORE it is held as in RETAIN (log 21). -/
def overdueExpired (s : State) : State :=
  if s.store.closeOptions.overdueEnabled = false ∨ s.closeState ≠ .idle then s
  else if s.supply ≠ .runSupply ∨ s.store.mode = .enteringSetup
      ∨ (s.store.mode = .run ∧ inhibitActive s) then
    onStore (fun st => { st with overdueHeld := true }) s
  else if s.store.mode = .run then takeClose .overdue none s
  else s

/-- The end of the inhibit at the period unit: one waiting request taken (R93). It is not delivered
outside RUN-SUPPLY (R139, log 21). -/
def inhibitEnded (s : State) : State :=
  if s.supply = .runSupply ∧ s.closeState = .idle ∧ s.store.mode = .run then
    if s.store.overdueHeld ∧ s.store.closeOptions.overdueEnabled then takeClose .overdue none s
    else if s.store.closeOptions.lineMode = .level ∧ s.latch ∧ s.recognizer.level = .low then
      takeClose .line none s
    else s
  else s

/-- An expiry delivered to the owner of its function. A DEMAND expiry reaches the demand unit in RUN-SUPPLY
only (R139). -/
def expiryDelivered (f : ChainFn) (s : State) : State :=
  match f with
  | .demand => if s.supply = .runSupply then fullEnd s else s
  | .overdue => overdueExpired s
  | .inhibit => inhibitEnded s

/-- Whether a chain counts at a tick (R138). -/
def counts (c : Chain) (t : ChainTick) : Bool := c.state == .running && c.tick == t

/-- Whether the next tick of a chain is its expiry (R138). -/
def chainDue (c : Chain) : Bool := c.state == .running && c.count == 1

/-- One tick of one chain, with its expiry if due (R138, R139). -/
def chainTick (f : ChainFn) (s : State) : State :=
  let c := chainOf s.store.chains f
  let s' := onChain f (chainCounted f) s
  if countedDown c.length c.count = 0 then expiryDelivered f s' else s'

/-! ### When a tick falls (R133, R134) -/

/-- Whether a supply is present, so that the ticks run (R134). -/
def powered (s : State) : Bool := s.supply != .unpowered

/-- Whether a sample tick can fall now: not while a second or a minute tick that falls together with the one
before is still to be taken (R133). -/
def sampleFalls (s : State) : Bool :=
  powered s && decide (s.prescaler.samples ≤ 1023)
    && !(s.prescaler.samples == 0 && s.prescaler.seconds == 60)

/-- Whether the second tick falls now: together with the 1024th sample tick since the last, which may be taken
before it or after it (R133). -/
def secondFalls (s : State) : Bool := powered s && decide (1023 ≤ s.prescaler.samples)

/-- Whether the minute tick falls now: together with the 60th second tick since the last, which may be taken
before it or after it (R133). -/
def minuteFalls (s : State) : Bool :=
  powered s
    && ((s.prescaler.seconds == 60 && decide (s.prescaler.samples ≤ 0))
      || (s.prescaler.seconds == 59 && decide (1023 ≤ s.prescaler.samples)))

/-- Whether the tick that a chain counts falls now. -/
def chainTickFalls (t : ChainTick) (s : State) : Bool :=
  match t with
  | .second => secondFalls s
  | .minute => minuteFalls s

/-- Whether a part of the tick to come has been taken already (log 4). -/
def takenEarly (x : TickPart) (s : State) : Bool := s.prescaler.early.contains x

/-- A part of the tick to come taken ahead of the rest (log 4). -/
def takeEarly (x : TickPart) (s : State) : State :=
  { s with prescaler := { s.prescaler with early := x :: s.prescaler.early } }

/-- Whether a part belongs to a sample tick. -/
def ofSample : TickPart → Bool
  | .input _ | .closein => true
  | .lease _ | .chain _ _ => false

/-- Whether a part belongs to a second tick, or to a minute tick. -/
def ofTick (t : ChainTick) : TickPart → Bool
  | .input _ | .closein => false
  | .lease _ => t == .second
  | .chain u _ => u == t

/-- The phase after a sample tick, a second tick and a minute tick (R133). -/
def sampleCounted (c : Prescaler) : Prescaler :=
  { c with samples := c.samples + 1, early := c.early.filter fun x => !ofSample x }

def secondCounted (c : Prescaler) : Prescaler :=
  { c with
    samples := c.samples - 1024
    seconds := c.seconds + 1
    early := c.early.filter fun x => !ofTick .second x }

def minuteCounted (c : Prescaler) : Prescaler :=
  { c with seconds := c.seconds - 60, early := c.early.filter fun x => !ofTick .minute x }

/-! ### The ticks (R133) -/

/-- The takers of a second tick, in the order the model gives where the operand names none (R133,
log 6). -/
def secondTakers : List TickTaker :=
  [.marks, .lines, .leases, .retainCount, .chain .demand, .chain .overdue, .chain .inhibit]

/-- The takers of a minute tick. -/
def minuteTakers : List TickTaker :=
  [.duration, .chain .demand, .chain .overdue, .chain .inhibit]

/-- The takers in the order a tick reaches them: those the operand names, each once, then the rest. -/
def takerOrder (first takers : List TickTaker) : List TickTaker :=
  (first.eraseDups.filter takers.contains) ++ takers.filter fun t => !first.contains t

/-- The retain duration at a second tick (R189). -/
def retainSecond (s : State) : State :=
  if s.supply = .retain then { s with retainDuration := min (s.retainDuration + 1) (2 ^ 32 - 1) }
  else s

/-- A tick at one chain: it counts if it is RUNNING, the tick is its own, and it has not taken this tick
already (R138, log 4). -/
def tickChain (t : ChainTick) (f : ChainFn) (s : State) : State :=
  if counts (chainOf s.store.chains f) t ∧ takenEarly (.chain t f) s = false then chainTick f s else s

/-- A second tick at one slot that has not taken it already (R128, log 4). -/
def tickLease (s : State) (i : SnapId) : State :=
  if takenEarly (.lease i) s then s else leaseTick s i

/-- A second tick at one of its takers (R57, R69, R128, R138, R189). -/
def secondAt (tsel1 tsel0 : Bool) (s : State) : TickTaker → State
  | .marks => setMarks s
  | .lines => sampleLines tsel1 tsel0 s
  | .leases => [0, 1, 2, 3].foldl tickLease s
  | .retainCount => retainSecond s
  | .duration => s
  | .chain f => tickChain .second f s

/-- A minute tick at one of its takers (R90, R138). -/
def minuteAt (s : State) : TickTaker → State
  | .duration =>
    onStore (fun st => { st with periodDuration := min (st.periodDuration + 1) 65535 }) s
  | .chain f => tickChain .minute f s
  | .marks | .lines | .leases | .retainCount => s

/-- The level of one pin in the levels of PLS0 to PLS7. -/
def pinHigh (pls : BitVec 8) (n : InputId) : Bool := pls.getLsbD n.val

/-- A sample tick at one input that has not taken it already (R48, log 4). -/
def tickInput (pls : BitVec 8) (s : State) (n : InputId) : State :=
  if takenEarly (.input n) s then s else sampleInput n (pinHigh pls n) s

/-- A sample tick at CLOSEIN, if it has not been taken already (R95, log 4). -/
def tickCloseIn (closein : Bool) (s : State) : State :=
  if takenEarly .closein s then s else sampleCloseIn closein s

/-- SAMPLE_TICK: every enabled input sampled, in the order 0 to 7, then CLOSEIN (R48, R95, R133). No rule
orders two inputs that saturate at one tick, and so their PULSE notices: DESIGN CHOICE (log 35). -/
def execSampleTick (pls : BitVec 8) (closein : Bool) (s : State) :
    Host.Outcome State Fault Refusal :=
  .next (if sampleFalls s then
    { tickCloseIn closein ((List.finRange 8).foldl (tickInput pls) s) with
      prescaler := sampleCounted s.prescaler }
  else s)

/-- SECOND_TICK (R133). -/
def execSecondTick (tsel1 tsel0 : Bool) (first : List TickTaker) (s : State) :
    Host.Outcome State Fault Refusal :=
  .next (if secondFalls s then
    { (takerOrder first secondTakers).foldl (secondAt tsel1 tsel0) s with
      prescaler := secondCounted s.prescaler }
  else s)

/-- MINUTE_TICK (R133). -/
def execMinuteTick (first : List TickTaker) (s : State) : Host.Outcome State Fault Refusal :=
  .next (if minuteFalls s then
    { (takerOrder first minuteTakers).foldl minuteAt s with
      prescaler := minuteCounted s.prescaler }
  else s)

/-! ### The events of one block at a tick (log 4) -/

/-- PULSE_JUDGEMENT: the sample that is an input's third verification sample (R50). -/
def execPulseJudgement (n : InputId) (high : Bool) (s : State) :
    Host.Outcome State Fault Refusal :=
  .next (if sampleFalls s ∧ takenEarly (.input n) s = false ∧ s.store.pulseDefs[n].enabled
      ∧ judgementDue s.store.pulseDefs[n] s.inputs[n] then
    takeEarly (.input n) (sampleInput n high s) else s)

/-- REARM_COMPLETE: the inactive sample that completes an input's rearm (R52). -/
def execRearmComplete (n : InputId) (s : State) : Host.Outcome State Fault Refusal :=
  .next (if sampleFalls s ∧ takenEarly (.input n) s = false
      ∧ rearmDue s.store.pulseDefs[n] s.inputs[n] then
    takeEarly (.input n) (sampleInput n (!s.store.pulseDefs[n].activeHigh) s) else s)

/-- The sample of CLOSEIN that recognizes an edge, ahead of the rest of its tick (R95). -/
def closeInEvent (high : Bool) (edge : LineEdge) (s : State) : State :=
  if sampleFalls s ∧ takenEarly .closein s = false ∧ closeinSampled s
      ∧ edgeOf s.recognizer high = some edge then
    takeEarly .closein (sampleCloseIn high s)
  else s

/-- RECOGNIZED_FALLING_EDGE: the sample of CLOSEIN that is recognized as a fall (R96, R97). -/
def execRecognizedFallingEdge (s : State) : Host.Outcome State Fault Refusal :=
  .next (closeInEvent false .falling s)

/-- RECOGNIZED_RISING_EDGE: the sample of CLOSEIN that is recognized as a rise (R96, R97). -/
def execRecognizedRisingEdge (s : State) : Host.Outcome State Fault Refusal :=
  .next (closeInEvent true .rising s)

/-- The tick at which a chain reaches 0, ahead of the rest of that tick (R138). -/
def chainEvent (f : ChainFn) (s : State) : State :=
  let c := chainOf s.store.chains f
  if chainTickFalls c.tick s ∧ takenEarly (.chain c.tick f) s = false ∧ chainDue c then
    takeEarly (.chain c.tick f) (chainTick f s)
  else s

/-- DEMAND_EXPIRY: the tick at which the DEMAND chain reaches 0 (R79, R138). -/
def execDemandExpiry (s : State) : Host.Outcome State Fault Refusal :=
  .next (chainEvent .demand s)

/-- OVERDUE_EXPIRY (R99, R138). -/
def execOverdueExpiry (s : State) : Host.Outcome State Fault Refusal :=
  .next (chainEvent .overdue s)

/-- INHIBIT_EXPIRY (R93, R138). -/
def execInhibitExpiry (s : State) : Host.Outcome State Fault Refusal :=
  .next (chainEvent .inhibit s)

/-- A second tick at one slot ahead of the rest of that tick, once (R128, log 4). -/
def leaseAhead (s : State) (i : SnapId) : State :=
  if takenEarly (.lease i) s then s else takeEarly (.lease i) (leaseTick s i)

/-- The slots that a second tick reaches up to one, in slot order (R128). -/
def slotsUpTo (i : SnapId) : List SnapId := ([0, 1, 2, 3] : List SnapId).filter (· ≤ i)

/-- LEASE_EXPIRY: the second tick that brings one slot's remaining lease to 0. The slots below it take that tick
before it, since the slots that expire at one tick raise their LEASE notices in slot order (R128, log 4). -/
def execLeaseExpiry (slot : SnapId) (s : State) : Host.Outcome State Fault Refusal :=
  .next (if secondFalls s ∧ takenEarly (.lease slot) s = false ∧ leaseDue s.slots[slot] then
    (slotsUpTo slot).foldl leaseAhead s else s)

/-! ### DEFINE CHAIN (R142) -/

/-- Whether two runs of segments share one. -/
def sharesSegment (first n : Nat) (c : Chain) : Bool :=
  assigned c && decide (first < c.first + c.length ∧ c.first < first + n)

/-- Whether a segment of a new chain belongs to another function's chain (R142 check 4). -/
def overlapsOther (cs : Chains) (f : ChainFn) (first n : Nat) : Bool :=
  [ChainFn.demand, .overdue, .inhibit].any fun g => g != f && sharesSegment first n (chainOf cs g)

/-- The new entry that the arguments after the unassign flag give (R142 checks 2 and 3). -/
def parseChain (args : List Byte) : Option Chain := do
  let first ← inRange 0 3 (arg args 2).toNat
  let n ← inRange 1 4 (arg args 3).toNat
  let tick ← chainTickOfByte (arg args 4)
  let reload ← inRange 1 (4096 ^ n - 1) (fromBigEndian (argBytes args 5 6))
  if first + n ≤ 4 then return ⟨first, n, tick, reload, .stopped, 0⟩ else none

/-- DEFINE CHAIN (R142). -/
def doDefineChain (_p : PortId) (args : List Byte) (s : State) : Reply :=
  match chainFnOfByte (arg args 0), boolOfByte (arg args 1) with
  | some f, some true =>
    answer (onConfiguration (fun st =>
      { st with chains := withChain st.chains f unassignedChain }) s) .ok []
  | some f, some false =>
    match parseChain args with
    | none => refuse s .badArgument
    | some c =>
      if overlapsOther s.store.chains f c.first c.length then refuse s .badArgument
      else
        answer (onConfiguration (fun st => { st with chains := withChain st.chains f c }) s) .ok []
  | _, _ => refuse s .badArgument

end Sys2Proof.Machine
end

