-- ==== Sys2Proof/WellFormed.lean ====
section
/-! DEFINITION. Which commands and events the outside can send: a request holds at most 60 argument bytes
(R146), an unknown command bears a code outside the code table (R163), and the operand that orders a tick
names each of its takers at most once (R133, log 6). -/

namespace Sys2Proof

open Machine

/-- The argument bytes a request can hold (R146). -/
def argsFit (args : List Byte) : Bool := decide (args.length ≤ lengthLimit)

/-- Whether a list orders some of the takers of a tick. -/
def ordersTakers (first takers : List TickTaker) : Bool :=
  decide first.Nodup && first.all takers.contains

/-- Whether a row's operands are ones the outside can bring about. -/
def Instr.wellFormed : Instr → Bool
  | .readStatus _ a | .readRegister _ a | .readLastResult _ a | .readNotices _ a
  | .setNoticeMask _ a | .portReset _ a | .postIncrement _ a | .setTariff _ a
  | .requestClose _ a | .readLog _ a | .readDemand _ a | .readPulseInput _ a
  | .snapshotOpen _ a | .snapshotRead _ a | .snapshotRenew _ a | .snapshotRelease _ a
  | .claimSetup _ a | .releaseSetup _ a | .defineQuantity _ a | .bindRegister _ a
  | .unbindRegister _ a | .setRegisterOptions _ a | .clearRegister _ a | .acceptRegister _ a
  | .definePulseInput _ a | .defineDemandChannel _ a | .defineChain _ a | .setTariffSource _ a
  | .setCloseOptions _ a | .setRights _ a | .clearLog _ a | .commit _ a | .reopen _ a
  | .readConfiguration _ a => argsFit a
  | .unknownCommand _ code a => argsFit a && kindOfCode code == .unknown code
  | .secondTick _ _ first => ordersTakers first secondTakers
  | .minuteTick first => ordersTakers first minuteTakers
  | .frameError _ | .frameDiscarded _ | .lengthByteAbove60 _ | .readNoticesResponseLost _
  | .portGrant | .conversion | .applicationStart | .applicationCompletion | .captureStart
  | .captureCompletion | .writingStart | .closeCompletion | .setupClosePlacement
  | .sampleTick _ _ | .pulseJudgement _ _ | .rearmComplete _ | .recognizedFallingEdge
  | .recognizedRisingEdge | .demandExpiry | .overdueExpiry | .inhibitExpiry | .leaseExpiry _
  | .drainEntry | .retainEntry | .restore _ | .powerUp _ | .resetPin | .resetPinRelease
  | .lossOfBothSupplies => true

end Sys2Proof
end

