-- ==== Sys2Proof/Decode.lean ====
section
/-! DEFINITION. Decoding: the table gives no row any bits, so decodeTableWord spells none of them. What
the part itself decodes is a frame: the bytes of one chip select period, to the row they make (R145,
R146), and the bytes of a command's request. -/

namespace Sys2Proof

open Machine

/-- The command that a word spells by the table's bits. No row of the table gives any. -/
def decodeTableWord (_nbits _w : Nat) : Option Instr := none

/-- The row of a command taken from a frame. -/
def commandRow (p : PortId) (k : CommandKind) (args : List Byte) : Instr :=
  match k with
  | .readStatus => .readStatus p args
  | .readRegister => .readRegister p args
  | .readLastResult => .readLastResult p args
  | .readNotices => .readNotices p args
  | .setNoticeMask => .setNoticeMask p args
  | .portReset => .portReset p args
  | .postIncrement => .postIncrement p args
  | .setTariff => .setTariff p args
  | .requestClose => .requestClose p args
  | .readLog => .readLog p args
  | .readDemand => .readDemand p args
  | .readPulseInput => .readPulseInput p args
  | .snapshotOpen => .snapshotOpen p args
  | .snapshotRead => .snapshotRead p args
  | .snapshotRenew => .snapshotRenew p args
  | .snapshotRelease => .snapshotRelease p args
  | .claimSetup => .claimSetup p args
  | .releaseSetup => .releaseSetup p args
  | .defineQuantity => .defineQuantity p args
  | .bindRegister => .bindRegister p args
  | .unbindRegister => .unbindRegister p args
  | .setRegisterOptions => .setRegisterOptions p args
  | .clearRegister => .clearRegister p args
  | .acceptRegister => .acceptRegister p args
  | .definePulseInput => .definePulseInput p args
  | .defineDemandChannel => .defineDemandChannel p args
  | .defineChain => .defineChain p args
  | .setTariffSource => .setTariffSource p args
  | .setCloseOptions => .setCloseOptions p args
  | .setRights => .setRights p args
  | .clearLog => .clearLog p args
  | .commit => .commit p args
  | .reopen => .reopen p args
  | .readConfiguration => .readConfiguration p args
  | .unknown code => .unknownCommand p code args

/-- The row that the bytes of one frame make (R146): discarded where it ends before its check byte, no
command where the length byte is above 60, FRAME_ERROR where the check byte does not match, else the
command. Bytes after the check byte are ignored (R145). -/
def decodeFrame (p : PortId) (bytes : List Byte) : Instr :=
  match bytes with
  | code :: len :: rest =>
    if lengthLimit < len.toNat then .lengthByteAbove60 p
    else
      match rest[len.toNat]? with
      | none => .frameDiscarded p
      | some check =>
        let args := rest.take len.toNat
        if crc8 (code :: len :: args) = check then commandRow p (kindOfCode code) args
        else .frameError p
  | [] | [_] => .frameDiscarded p

/-- The row that the bits sampled in one frame make, most significant bit of a byte first (R145). -/
def decodeBits (p : PortId) (bits : List Bool) : Instr := decodeFrame p (bytesOfBits bits)

/-- The port, command and arguments of a row that a request brings. -/
def requestOf : Instr → Option (PortId × CommandKind × List Byte)
  | .readStatus p a => some (p, .readStatus, a)
  | .readRegister p a => some (p, .readRegister, a)
  | .readLastResult p a => some (p, .readLastResult, a)
  | .readNotices p a => some (p, .readNotices, a)
  | .setNoticeMask p a => some (p, .setNoticeMask, a)
  | .portReset p a => some (p, .portReset, a)
  | .postIncrement p a => some (p, .postIncrement, a)
  | .setTariff p a => some (p, .setTariff, a)
  | .requestClose p a => some (p, .requestClose, a)
  | .readLog p a => some (p, .readLog, a)
  | .readDemand p a => some (p, .readDemand, a)
  | .readPulseInput p a => some (p, .readPulseInput, a)
  | .snapshotOpen p a => some (p, .snapshotOpen, a)
  | .snapshotRead p a => some (p, .snapshotRead, a)
  | .snapshotRenew p a => some (p, .snapshotRenew, a)
  | .snapshotRelease p a => some (p, .snapshotRelease, a)
  | .claimSetup p a => some (p, .claimSetup, a)
  | .releaseSetup p a => some (p, .releaseSetup, a)
  | .defineQuantity p a => some (p, .defineQuantity, a)
  | .bindRegister p a => some (p, .bindRegister, a)
  | .unbindRegister p a => some (p, .unbindRegister, a)
  | .setRegisterOptions p a => some (p, .setRegisterOptions, a)
  | .clearRegister p a => some (p, .clearRegister, a)
  | .acceptRegister p a => some (p, .acceptRegister, a)
  | .definePulseInput p a => some (p, .definePulseInput, a)
  | .defineDemandChannel p a => some (p, .defineDemandChannel, a)
  | .defineChain p a => some (p, .defineChain, a)
  | .setTariffSource p a => some (p, .setTariffSource, a)
  | .setCloseOptions p a => some (p, .setCloseOptions, a)
  | .setRights p a => some (p, .setRights, a)
  | .clearLog p a => some (p, .clearLog, a)
  | .commit p a => some (p, .commit, a)
  | .reopen p a => some (p, .reopen, a)
  | .readConfiguration p a => some (p, .readConfiguration, a)
  | .unknownCommand p code a => some (p, .unknown code, a)
  | .frameError _ | .frameDiscarded _ | .lengthByteAbove60 _ | .readNoticesResponseLost _
  | .portGrant | .conversion | .applicationStart | .applicationCompletion | .captureStart
  | .captureCompletion | .writingStart | .closeCompletion | .setupClosePlacement
  | .sampleTick _ _ | .secondTick _ _ _ | .minuteTick _ | .pulseJudgement _ _
  | .rearmComplete _ | .recognizedFallingEdge | .recognizedRisingEdge | .demandExpiry
  | .overdueExpiry | .inhibitExpiry | .leaseExpiry _ | .drainEntry | .retainEntry | .restore _
  | .powerUp _ | .resetPin | .resetPinRelease | .lossOfBothSupplies => none

/-- The request of a command: code, length, arguments, check byte (R146, R165). -/
def requestBytes (k : CommandKind) (args : List Byte) : List Byte :=
  let body := kindCode k :: byte args.length :: args
  body ++ [crc8 body]

end Sys2Proof
end

