-- ==== Sys2Proof/Machine/Setups.lean ====
section
/-! DEFINITION. Setup and rights: the claim, SET RIGHTS, COMMIT, REOPEN, READ CONFIGURATION and the
placing of the SETUP close (chapter 10). -/

namespace Sys2Proof.Machine

/-! ### The claim (R172, R173) -/

/-- CLAIM SETUP, after its right check (R172). -/
def doClaimSetup (p : PortId) (_args : List Byte) (s : State) : Reply :=
  match s.claim with
  | none => answer { s with claim := some p } .ok []
  | some q => if q = p then answer s .ok [] else refuse s .claimed

/-- RELEASE SETUP, after its claim check (R173). -/
def doReleaseSetup (_p : PortId) (_args : List Byte) (s : State) : Reply :=
  answer { s with claim := none } .ok []

/-! ### SET RIGHTS (R175) -/

/-- A port's record from its two argument bytes, none where a bit of 7 to 4 is set (R175). -/
def parseRights (postMask rights : Byte) : Option RightsRec :=
  if rights.toNat < 16 then
    some ⟨postMask, rights.getLsbD 0, rights.getLsbD 1, rights.getLsbD 2, rights.getLsbD 3⟩
  else none

/-- SET RIGHTS: one port's record written whole, and answered as written (R175, log 27). -/
def doSetRights (_p : PortId) (args : List Byte) (s : State) : Reply :=
  match finOfByte 3 (arg args 0), parseRights (arg args 1) (arg args 2) with
  | some q, some r =>
    answer (onConfiguration (fun st => { st with rights := st.rights.set q r }) s) .ok
      [r.postMask, rightsByte r]
  | _, _ => refuse s .badArgument

/-! ### COMMIT (R178, R179) -/

/-- The first of the COMMIT checks that fails: its reason code and index (R178). -/
def commitFault (st : Store) : Option (Byte × Byte) :=
  if st.channels.toList.any (·.quantity.isSome) && !assigned st.chains.demand then some (3, 0)
  else if st.closeOptions.overdueEnabled && !assigned st.chains.overdue then some (4, 1)
  else if st.closeOptions.inhibitEnabled && !assigned st.chains.inhibit then some (5, 2)
  else if !st.rights.toList.any (·.setup) then some (6, 0)
  else none

/-- A COMMIT that passes, as one event (R179). -/
def committed (s : State) : State :=
  let s := { s with
    claim := none
    engine := .ready
    lineHistory := none
    recognizer := unknownRecognizer
    latch := false
    inputs := s.inputs.map fun i => { i with eligible := false } }
  let s := onStore (fun st => { st with mode := .run, overdueHeld := false }) s
  onChain .inhibit released (onChain .overdue loaded (partialEnd s))

/-- COMMIT, after its claim check (R178, R179). -/
def doCommit (_p : PortId) (_args : List Byte) (s : State) : Reply :=
  match commitFault s.store with
  | some (reason, index) => answer s .commitRefused [reason, index]
  | none => answer (committed s) .ok []

/-! ### REOPEN (R180, R181) -/

/-- REOPEN, after its right check: ENTERING_SETUP, the requester recorded, the served marks cleared
(R57, R180). -/
def doReopen (p : PortId) (_args : List Byte) (s : State) : Reply :=
  if s.closeState ≠ .idle then refuse s .closeBusy
  else
    let s := onStore (fun st => { st with mode := .enteringSetup }) s
    answer { s with
      reopen := some ⟨p, true⟩
      inputs := s.inputs.map fun i => { i with served := false } }
      .accepted (bigEndian 2 s.store.periodNumber.toNat)

/-- Whether the SETUP close can be placed at this moment (R181). In drain a REOPEN whose close is not
placed has been abandoned (R183). -/
def setupCloseDue (s : State) : Bool :=
  s.store.mode == .enteringSetup && s.supply == .runSupply && s.closeState == .idle
    && s.queue.isEmpty && s.captureQueue.isEmpty && s.engine == .ready && !anyEligible s

/-- The SETUP close placed and taken, the converter stopped (R181, R56, R101). -/
def placeSetupClose (s : State) : State :=
  takeClose .setup (s.reopen.map (·.requester)) (stopConverter s)

/-! ### READ CONFIGURATION (R177) -/

/-- The fields of one item of the configuration; none where the item or the index is out of range
(R177, R143). -/
def configurationItem (st : Store) (item index : Byte) : Option (List Byte) :=
  match item.toNat with
  | 0 => (finOfByte 8 index).map fun q =>
    [boolCode st.quantities[q].defined, byte st.quantities[q].scale]
  | 1 => (finOfByte 8 index).map fun n => pulseDefBytes st.pulseDefs[n]
  | 2 => (finOfByte 4 index).map fun c => [optionCode st.channels[c].quantity]
  | 3 => (chainFnOfByte index).map fun f =>
    let c := chainOf st.chains f
    chainDefBytes c ++ [byte (chainStateNat c.state)] ++ bigEndian 6 c.count
  | 4 => if index = 0 then some [byte (sourceNat st.sourceMode), tariffCode st.activeTariff] else none
  | 5 => if index = 0 then some (closeOptionBytes st.closeOptions) else none
  | 6 => (finOfByte 3 index).map fun q => [st.rights[q].postMask, rightsByte st.rights[q]]
  | _ => none

/-- READ CONFIGURATION (R177). -/
def doReadConfiguration (_p : PortId) (args : List Byte) (s : State) : Reply :=
  match configurationItem s.store (arg args 0) (arg args 1) with
  | some fields => answer s .ok ([arg args 0, arg args 1] ++ fields)
  | none => refuse s .badArgument

end Sys2Proof.Machine
end

