-- ==== Sys2Proof/Machine/Ports.lean ====
section
/-! DEFINITION. Ports: the port commands, the common order of checks, and the taking and running of
commands (chapter 9). -/

namespace Sys2Proof.Machine

/-! ### The port commands (R150, R154, R155, R157, R158) -/

/-- READ STATUS (R157). -/
def doReadStatus (p : PortId) (_args : List Byte) (s : State) : Reply :=
  answer s .ok ([byte (modeNat s.store.mode), tariffCode s.store.activeTariff]
    ++ bigEndian 2 s.store.periodNumber.toNat ++ bigEndian 2 s.store.periodDuration
    ++ [byte (closeStateNat s.closeState), boolCode (inhibitActive s)]
    ++ bigEndian 4 s.store.applicationCounter.toNat
    ++ [byte s.queue.length, optionCode s.claim, byte (slotCount s p)])

/-- The data of READ LAST RESULT: an empty record reads as absent with zeros (R150). -/
def lastResultData : Option LastResult → List Byte
  | some r => [1, r.code, r.tag, statusCode r.status] ++ bigEndian 4 r.counter.toNat
  | none => List.replicate 8 0

/-- READ LAST RESULT (R150). -/
def doReadLastResult (p : PortId) (_args : List Byte) (s : State) : Reply :=
  answer s .ok (lastResultData s.ports[p].lastResult)

/-- The most notices one READ NOTICES returns (R154). -/
def readLimit : Nat := 6

/-- A port after a READ NOTICES: the oldest notices removed, and OVERRUN and ATTN cleared where that
leaves the queue empty (R153, R154). -/
def noticesRead (q : Port) : Port :=
  let rest := q.notices.drop readLimit
  { q with
    notices := rest
    attn := !rest.isEmpty
    overrun := q.overrun && !rest.isEmpty }

/-- READ NOTICES (R154, R166). -/
def doReadNotices (p : PortId) (_args : List Byte) (s : State) : Reply :=
  let q := s.ports[p]
  let given := q.notices.take readLimit
  answer (onPort p noticesRead s) .ok
    ([byte given.length, byte (q.notices.length - given.length), boolCode q.overrun]
      ++ given.flatMap noticeBytes)

/-- SET NOTICE MASK (R155). -/
def doSetNoticeMask (p : PortId) (args : List Byte) (s : State) : Reply :=
  if (arg args 0).toNat < 64 then
    answer (onPort p (fun q => { q with mask := (arg args 0).setWidth 6 }) s) .ok [arg args 0]
  else refuse s .badArgument

/-- PORT RESET (R158). -/
def doPortReset (p : PortId) (_args : List Byte) (s : State) : Reply := answer (resetPort s p) .ok []

/-! ### The common order of checks (R149) -/

/-- The mode step: the modes of R163, and for SET TARIFF the source mode (R67). -/
def modeFits (k : CommandKind) (s : State) : Bool :=
  modeAllowed k s.store.mode && (k != .setTariff || s.store.sourceMode == .command)

/-- The right step: the right a command needs, or the claim; the right of a POST and the holding of a
slot are checked with the arguments (R149, R163). -/
def rightRefusal (k : CommandKind) (p : PortId) (s : State) : Option Status :=
  let r := s.store.rights[p]
  let need (b : Bool) : Option Status := if b then none else some .noRight
  match k with
  | .setTariff => need r.tariff
  | .requestClose => need r.close
  | .snapshotOpen => need r.snap
  | .claimSetup | .reopen => need r.setup
  | .releaseSetup | .commit | .defineQuantity | .bindRegister | .unbindRegister
  | .setRegisterOptions | .clearRegister | .acceptRegister | .definePulseInput
  | .defineDemandChannel | .defineChain | .setTariffSource | .setCloseOptions | .setRights
  | .clearLog => if s.claim = some p then none else some .notClaimed
  | .readStatus | .readRegister | .readLastResult | .readNotices | .setNoticeMask | .portReset
  | .postIncrement | .readLog | .readDemand | .readPulseInput | .snapshotRead | .snapshotRenew
  | .snapshotRelease | .readConfiguration | .unknown _ => none

/-- Whether a code is in the code table (R163). -/
def known (k : CommandKind) : Bool :=
  match k with
  | .unknown _ => false
  | _ => true

/-- Steps 2 to 6 of the common order: the status of the first check that fails (R149). -/
def commonRefusal (p : PortId) (c : Command) (s : State) : Option Status :=
  if known c.kind = false then some .unknownCommand
  else if lengthAllowed c.kind c.args.length = false then some .badLength
  else if s.supply = .drain then some .powerFail
  else if modeFits c.kind s = false then some .wrongMode
  else rightRefusal c.kind p s

/-- Whether the engine is busy with a capture in SETUP, so that an edit waits for its end (R40,
R176, log 12). -/
def capturing (s : State) : Bool :=
  match s.engine with
  | .capturing _ _ _ _ => true
  | .halted | .ready | .applying _ _ | .closing => false

/-- A command handed to the block that owns the state concerned (R149). -/
def dispatched (p : PortId) (c : Command) (s : State) : Reply :=
  match c.kind with
  | .readStatus => doReadStatus p c.args s
  | .readRegister => doReadRegister p c.args s
  | .readLastResult => doReadLastResult p c.args s
  | .readNotices => doReadNotices p c.args s
  | .setNoticeMask => doSetNoticeMask p c.args s
  | .portReset => doPortReset p c.args s
  | .postIncrement => doPostIncrement p c.args s
  | .setTariff => doSetTariff p c.args s
  | .requestClose => doRequestClose p c.args s
  | .readLog => doReadLog p c.args s
  | .readDemand => doReadDemand p c.args s
  | .readPulseInput => doReadPulseInput p c.args s
  | .snapshotOpen => doSnapshotOpen p c.args s
  | .snapshotRead => doSnapshotRead p c.args s
  | .snapshotRenew => doSnapshotRenew p c.args s
  | .snapshotRelease => doSnapshotRelease p c.args s
  | .claimSetup => doClaimSetup p c.args s
  | .releaseSetup => doReleaseSetup p c.args s
  | .defineQuantity => doDefineQuantity p c.args s
  | .bindRegister => doBindRegister p c.args s
  | .unbindRegister => doUnbindRegister p c.args s
  | .setRegisterOptions => doSetRegisterOptions p c.args s
  | .clearRegister => doClearRegister p c.args s
  | .acceptRegister => doAcceptRegister p c.args s
  | .definePulseInput => doDefinePulseInput p c.args s
  | .defineDemandChannel => doDefineDemandChannel p c.args s
  | .defineChain => doDefineChain p c.args s
  | .setTariffSource => doSetTariffSource p c.args s
  | .setCloseOptions => doSetCloseOptions p c.args s
  | .setRights => doSetRights p c.args s
  | .clearLog => doClearLog p c.args s
  | .commit => doCommit p c.args s
  | .reopen => doReopen p c.args s
  | .readConfiguration => doReadConfiguration p c.args s
  | .unknown _ => refuse s .unknownCommand

/-- Whether a command has passed every check of its own block (R176, R178). -/
def passes (r : Reply) : Bool :=
  match r.result with
  | some (st, _) => st == .ok
  | none => false

/-- A command checked and run, as far as its result or its wait (R149). An edit or a COMMIT that passes its
checks waits while the engine is CAPTURING; one that fails them is refused at once (R40, R176, R178, R179,
log 12). -/
def runCommand (p : PortId) (c : Command) (s : State) : Reply :=
  match commonRefusal p c s with
  | some st => refuse s st
  | none =>
    let r := dispatched p c s
    if takenByEngine c.kind ∧ capturing s ∧ passes r then keepWaiting s else r

/-! ### Taking and executing (R146 to R148) -/

/-- A command enters execution: its result is made, or it stays in execution while the master sees
wait bytes (R147, R148). -/
def runOne (p : PortId) (ex : Execution) (s : State) : State :=
  let r := runCommand p ex.command s
  match r.result with
  | some (st, data) => giveResult p ex st data r.state
  | none =>
    onPort p (fun q =>
      { q with execution := some ex, wire := if ex.frameOpen then .waitBytes else q.wire }) r.state

/-- The waiting command enters execution when the one before it has its result (R148). -/
def takeWaiting (s : State) (p : PortId) : State :=
  match s.ports[p].execution, s.ports[p].waiting with
  | none, some w => runOne p w (onPort p (fun q => { q with waiting := none }) s)
  | _, _ => s

/-- A command taken while another is in execution: held as the waiting command, or discarded where
one waits already (R148). -/
def holdWaiting (p : PortId) (ex : Execution) (s : State) : State :=
  if s.ports[p].waiting.isSome then s
  else onPort p (fun q => { q with waiting := some ex, wire := .waitBytes }) s

/-- A frame whose check byte matches: its command is taken, unless its length byte is above 60 (R146,
R148). -/
def takeCommand (p : PortId) (kind : CommandKind) (args : List Byte) (s : State) : State :=
  if listening s then
    let s := openFrame p s
    if lengthLimit < args.length then setWire p .waitBytes s
    else if s.ports[p].execution.isNone then runOne p ⟨⟨kind, args⟩, true⟩ s
    else holdWaiting p ⟨⟨kind, args⟩, true⟩ s
  else s

/-- A command in execution that waits for the engine is checked again and taken at the end of the capture
that held it, and the command behind it follows (R40, R148, log 12). -/
def resumeEdit (s : State) (p : PortId) : State :=
  match s.ports[p].execution with
  | some ex => if takenByEngine ex.command.kind then takeWaiting (runOne p ex s) p else s
  | none => s

/-- A POST granted: the checks of R30 step 6, then the entry placed and the POST answered; the command
behind it follows (R26, R31, R148). -/
def grantPort (p : PortId) (ex : Execution) (s : State) : State :=
  let s := { s with arbiterPointer := .port p }
  let fill := s.queue.length
  let s :=
    match finOfByte 8 (arg ex.command.args 0), postAmount ex.command.args with
    | some q, some amount =>
      if s.store.mode ≠ .run then giveResult p ex .wrongMode [] s
      else if portFillLimit < fill then giveResult p ex .queueFull [byte fill] s
      else giveResult p ex .ok [byte (fill + 1)] (place q amount (.port p) s)
    | _, _ => giveResult p ex .badArgument [] s
  takeWaiting s p

end Sys2Proof.Machine
end

