-- ==== Sys2Proof/Machine/Frames.lean ====
section
/-! DEFINITION. The rows of the ports: one for each command of the code table, and the frames that bring
no command of it (chapter 9). Each command row is a frame whose check byte matched (log 7). -/

namespace Sys2Proof.Machine

/-- READ STATUS (R157). -/
def execReadStatus (p : PortId) (args : List Byte) (s : State) :
    Host.Outcome State Fault Refusal :=
  .next (takeCommand p .readStatus args s)

/-- READ REGISTER (R17). -/
def execReadRegister (p : PortId) (args : List Byte) (s : State) :
    Host.Outcome State Fault Refusal :=
  .next (takeCommand p .readRegister args s)

/-- READ LAST RESULT (R150). -/
def execReadLastResult (p : PortId) (args : List Byte) (s : State) :
    Host.Outcome State Fault Refusal :=
  .next (takeCommand p .readLastResult args s)

/-- READ NOTICES (R154). -/
def execReadNotices (p : PortId) (args : List Byte) (s : State) :
    Host.Outcome State Fault Refusal :=
  .next (takeCommand p .readNotices args s)

/-- SET NOTICE MASK (R155). -/
def execSetNoticeMask (p : PortId) (args : List Byte) (s : State) :
    Host.Outcome State Fault Refusal :=
  .next (takeCommand p .setNoticeMask args s)

/-- PORT RESET (R158). -/
def execPortReset (p : PortId) (args : List Byte) (s : State) :
    Host.Outcome State Fault Refusal :=
  .next (takeCommand p .portReset args s)

/-- POST INCREMENT (R30). -/
def execPostIncrement (p : PortId) (args : List Byte) (s : State) :
    Host.Outcome State Fault Refusal :=
  .next (takeCommand p .postIncrement args s)

/-- SET TARIFF (R67). -/
def execSetTariff (p : PortId) (args : List Byte) (s : State) :
    Host.Outcome State Fault Refusal :=
  .next (takeCommand p .setTariff args s)

/-- REQUEST CLOSE (R94). -/
def execRequestClose (p : PortId) (args : List Byte) (s : State) :
    Host.Outcome State Fault Refusal :=
  .next (takeCommand p .requestClose args s)

/-- READ LOG (R113). -/
def execReadLog (p : PortId) (args : List Byte) (s : State) :
    Host.Outcome State Fault Refusal :=
  .next (takeCommand p .readLog args s)

/-- READ DEMAND (R87). -/
def execReadDemand (p : PortId) (args : List Byte) (s : State) :
    Host.Outcome State Fault Refusal :=
  .next (takeCommand p .readDemand args s)

/-- READ PULSE INPUT (R63). -/
def execReadPulseInput (p : PortId) (args : List Byte) (s : State) :
    Host.Outcome State Fault Refusal :=
  .next (takeCommand p .readPulseInput args s)

/-- SNAPSHOT OPEN (R119). -/
def execSnapshotOpen (p : PortId) (args : List Byte) (s : State) :
    Host.Outcome State Fault Refusal :=
  .next (takeCommand p .snapshotOpen args s)

/-- SNAPSHOT READ (R125). -/
def execSnapshotRead (p : PortId) (args : List Byte) (s : State) :
    Host.Outcome State Fault Refusal :=
  .next (takeCommand p .snapshotRead args s)

/-- SNAPSHOT RENEW (R126). -/
def execSnapshotRenew (p : PortId) (args : List Byte) (s : State) :
    Host.Outcome State Fault Refusal :=
  .next (takeCommand p .snapshotRenew args s)

/-- SNAPSHOT RELEASE (R127). -/
def execSnapshotRelease (p : PortId) (args : List Byte) (s : State) :
    Host.Outcome State Fault Refusal :=
  .next (takeCommand p .snapshotRelease args s)

/-- CLAIM SETUP (R172). -/
def execClaimSetup (p : PortId) (args : List Byte) (s : State) :
    Host.Outcome State Fault Refusal :=
  .next (takeCommand p .claimSetup args s)

/-- RELEASE SETUP (R173). -/
def execReleaseSetup (p : PortId) (args : List Byte) (s : State) :
    Host.Outcome State Fault Refusal :=
  .next (takeCommand p .releaseSetup args s)

/-- DEFINE QUANTITY (R2). -/
def execDefineQuantity (p : PortId) (args : List Byte) (s : State) :
    Host.Outcome State Fault Refusal :=
  .next (takeCommand p .defineQuantity args s)

/-- BIND REGISTER (R6). -/
def execBindRegister (p : PortId) (args : List Byte) (s : State) :
    Host.Outcome State Fault Refusal :=
  .next (takeCommand p .bindRegister args s)

/-- UNBIND REGISTER (R7). -/
def execUnbindRegister (p : PortId) (args : List Byte) (s : State) :
    Host.Outcome State Fault Refusal :=
  .next (takeCommand p .unbindRegister args s)

/-- SET REGISTER OPTIONS (R7). -/
def execSetRegisterOptions (p : PortId) (args : List Byte) (s : State) :
    Host.Outcome State Fault Refusal :=
  .next (takeCommand p .setRegisterOptions args s)

/-- CLEAR REGISTER (R8). -/
def execClearRegister (p : PortId) (args : List Byte) (s : State) :
    Host.Outcome State Fault Refusal :=
  .next (takeCommand p .clearRegister args s)

/-- ACCEPT REGISTER (R8). -/
def execAcceptRegister (p : PortId) (args : List Byte) (s : State) :
    Host.Outcome State Fault Refusal :=
  .next (takeCommand p .acceptRegister args s)

/-- DEFINE PULSE INPUT (R61). -/
def execDefinePulseInput (p : PortId) (args : List Byte) (s : State) :
    Host.Outcome State Fault Refusal :=
  .next (takeCommand p .definePulseInput args s)

/-- DEFINE DEMAND CHANNEL (R86). -/
def execDefineDemandChannel (p : PortId) (args : List Byte) (s : State) :
    Host.Outcome State Fault Refusal :=
  .next (takeCommand p .defineDemandChannel args s)

/-- DEFINE CHAIN (R142). -/
def execDefineChain (p : PortId) (args : List Byte) (s : State) :
    Host.Outcome State Fault Refusal :=
  .next (takeCommand p .defineChain args s)

/-- SET TARIFF SOURCE (R74). -/
def execSetTariffSource (p : PortId) (args : List Byte) (s : State) :
    Host.Outcome State Fault Refusal :=
  .next (takeCommand p .setTariffSource args s)

/-- SET CLOSE OPTIONS (R91). -/
def execSetCloseOptions (p : PortId) (args : List Byte) (s : State) :
    Host.Outcome State Fault Refusal :=
  .next (takeCommand p .setCloseOptions args s)

/-- SET RIGHTS (R175). -/
def execSetRights (p : PortId) (args : List Byte) (s : State) :
    Host.Outcome State Fault Refusal :=
  .next (takeCommand p .setRights args s)

/-- CLEAR LOG (R115). -/
def execClearLog (p : PortId) (args : List Byte) (s : State) :
    Host.Outcome State Fault Refusal :=
  .next (takeCommand p .clearLog args s)

/-- COMMIT (R178). -/
def execCommit (p : PortId) (args : List Byte) (s : State) :
    Host.Outcome State Fault Refusal :=
  .next (takeCommand p .commit args s)

/-- REOPEN (R180). -/
def execReopen (p : PortId) (args : List Byte) (s : State) :
    Host.Outcome State Fault Refusal :=
  .next (takeCommand p .reopen args s)

/-- READ CONFIGURATION (R177). -/
def execReadConfiguration (p : PortId) (args : List Byte) (s : State) :
    Host.Outcome State Fault Refusal :=
  .next (takeCommand p .readConfiguration args s)

/-- UNKNOWN_COMMAND: a frame whose code is not in the code table; a code of the table is its command
(R149, R163). -/
def execUnknownCommand (p : PortId) (code : Byte) (args : List Byte) (s : State) :
    Host.Outcome State Fault Refusal :=
  .next (takeCommand p (kindOfCode code) args s)

/-- FRAME_ERROR: a frame whose check byte does not match, answered at once, whatever the port executes
(R146, R148). -/
def execFrameError (p : PortId) (s : State) : Host.Outcome State Fault Refusal :=
  .next (if listening s then
    setWire p (.response ⟨none, .frameError, []⟩) (openFrame p s) else s)

/-- FRAME_DISCARDED: chip select rises before the check byte is complete (R146). -/
def execFrameDiscarded (p : PortId) (s : State) : Host.Outcome State Fault Refusal :=
  .next (if listening s then openFrame p s else s)

/-- LENGTH_BYTE_ABOVE_60: no command is taken, and wait bytes are driven until chip select rises
(R146). -/
def execLengthByteAbove60 (p : PortId) (s : State) : Host.Outcome State Fault Refusal :=
  .next (if listening s then setWire p .waitBytes (openFrame p s) else s)

/-- Whether a waiting command is a READ NOTICES whose frame is open. -/
def awaitsNotices (q : Port) : Bool :=
  match q.waiting with
  | some w => w.command.kind == .readNotices && w.frameOpen
  | none => false

/-- READ_NOTICES_RESPONSE_LOST: chip select rises before the check byte of the response to a READ
NOTICES; OVERRUN is set if it carried notices (R151). Where that response is still to come, its frame is
at an end. -/
def execReadNoticesResponseLost (p : PortId) (s : State) : Host.Outcome State Fault Refusal :=
  .next (match s.ports[p].wire with
    | .response ⟨some .readNotices, st, data⟩ =>
      onPort p (fun q =>
        { q with
          overrun := q.overrun || carriesNotices .readNotices st data
          wire := .quiet }) s
    | .waitBytes => if awaitsNotices s.ports[p] then openFrame p s else s
    | .response _ | .quiet => s)

end Sys2Proof.Machine
end

