-- ==== Sys2Proof/Machine/Supplies.lean ====
section
/-! DEFINITION. Supply loss and retention: drain, retain, restore, cold start, power-up, the loss of both
supplies, and the RESET input (chapters 11 and 9). -/

namespace Sys2Proof.Machine

/-! ### Drain (R188) -/

/-- A REOPEN resolved at drain entry: abandoned where its close has not been placed (R183). -/
def resolveReopen (s : State) : State :=
  if s.store.mode = .enteringSetup ∧ s.closeState = .idle then
    onStore (fun st => { st with mode := .run }) { s with reopen := none }
  else s

/-- Every slot freed without notice, with its capture request withdrawn (R130, R131). -/
def freeAllSlots (s : State) : State := [0, 1, 2, 3].foldl freeSlot s

/-- One port at drain entry: its queue emptied and ATTN deasserted (R156). -/
def emptyNotices (q : Port) : Port := { q with notices := [], attn := false }

/-- The command in execution on a port answered POWER_FAIL at drain entry, a POST at the arbiter and
an edit behind a capture alike, and the command behind it checked in its turn (R26, R160, log 13). -/
def failWaiting (s : State) (p : PortId) : State :=
  match s.ports[p].execution with
  | some ex => takeWaiting (giveResult p ex .powerFail [] s) p
  | none => s

/-- Drain entry, as one event (R188). -/
def enterDrain (s : State) : State :=
  let s := stopConverter (resolveReopen (freeAllSlots { s with supply := .drain, claim := none }))
  let s := onChain .demand held { s with latch := false, ports := s.ports.map emptyNotices }
  [0, 1, 2].foldl failWaiting s

/-- PFAIL asserted: drain entry in RUN-SUPPLY, and no other change in the other states (R187). -/
def execDrainEntry (s : State) : Host.Outcome State Fault Refusal :=
  .next (if s.supply = .unpowered then s
  else
    let s' := { s with pfailAsserted := true }
    if s.supply = .runSupply then enterDrain s' else s')

/-! ### Retain (R185, R189) -/

/-- Whether the drain is complete (R189). R189 names no capture, so RETAIN can be entered while one that the
drain entry withdrew is in progress, and its copy is then lost with the engine's work; R131 and R132 have it
completed and discarded: DESIGN CHOICE (log 38). -/
def drainComplete (s : State) : Bool :=
  s.supply == .drain && s.queue.isEmpty && s.closeState == .idle
    && s.store.mode != .enteringSetup
    && (match s.engine with
      | .applying _ _ => false
      | .halted | .ready | .capturing _ _ _ _ | .closing => true)

/-- The DEMAND chain with its state and count lost: HELD at its reload value, as restore finds it
(R141, R185). -/
def heldAtReload (c : Chain) : Chain :=
  if c.state = .unassigned then c else { c with state := .held, count := c.reload }

/-- The volatile state as it comes back at restore (R24, R29, R70, R88, R95, R116, R132, R141, R160,
R184, log 20). The front ends run on. -/
def loseVolatile (s : State) : State :=
  { onChain .demand heldAtReload s with
    ports := Vector.replicate 3 idlePort
    portsUp := false
    arbiterPointer := .converter
    queue := []
    engine := .halted
    captureQueue := []
    slots := Vector.replicate 4 .free
    claim := none
    reopen := none
    lineHistory := none
    inputs := s.inputs.map fun i => { i with eligible := false, served := false }
    converterPointer := 7
    recognizer := unknownRecognizer
    latch := false
    closeState := .idle
    currentClose := none
    doneOwed := false
    building := none
    accumulators := Vector.replicate 4 0
    intervalPartial := true }

/-- RETAIN, or RESTORE at once where PFAIL is deasserted (R187). -/
def retainOrRestore (pfail : Bool) : SupplyState := if pfail then .retain else .restore

/-- RETAIN_ENTRY: the drain complete (R189). -/
def execRetainEntry (s : State) : Host.Outcome State Fault Refusal :=
  .next (if drainComplete s then
    { loseVolatile s with retainDuration := 0, supply := retainOrRestore s.pfailAsserted }
  else s)

/-! ### Cold start (R192) -/

/-- Every retained item at its factory value, the new signature, the marker (R192, R55). The volatile
state is lost already. -/
def coldStart (s : State) : State :=
  { s with
    store := factoryStore
    inputs := Vector.replicate 8 disabledInput
    retainDuration := 0 }

/-- A start on the store as it stands: kept where its signature verifies, cold otherwise (R186, R192). -/
def verifyStore (s : State) : State := if signatureOk s.store then s else coldStart s

/-! ### Restore (R190, R191) -/

/-- The registers whose SUSPECT notice restore owes: bound, not SUSPECT already, and mismatched (R16,
R190 step 2). -/
def mismatched (s : State) : List RegSlot :=
  (List.finRange 32).filter fun i =>
    let r := s.store.registers[i]
    r.state != .free && r.state != .suspect && !checkMatches s i r

/-- A log record verified at restore (R108). -/
def verifiedEntry (e : LogEntry) : LogEntry :=
  { e with damaged := e.damaged || !recordCheckOk e.bytes }

/-- The log verified at restore: emptied where the index fails, else every record checked (R108). -/
def verifiedLog (l : PeriodLog) : PeriodLog :=
  if indexCheckOk l then logOf (l.entries.map verifiedEntry) else logOf []

/-- Restore steps 2 to 5: registers, log, front end, arbiter, tariff and CLOSEIN (R190). -/
def restoreBlocks (s : State) : State :=
  let s := (List.finRange 32).foldl (verifyRegister .restore) s
  let s := restartInputs (onStore (fun st => { st with log := verifiedLog st.log }) s)
  { s with
    converterPointer := 7
    arbiterPointer := .converter
    lineHistory := none
    recognizer := unknownRecognizer
    latch := false }

/-- Restore step 6: the demand unit's partial end (R81, R85, R190). -/
def restoreDemand (s : State) : State :=
  let s := onChain .demand heldAtReload s
  if s.store.mode = .run then partialEnd s else clearInterval s

/-- Restore step 7: a held OVERDUE (R100, R190). -/
def restoreOverdue (s : State) : State :=
  if s.store.mode = .run ∧ s.store.overdueHeld ∧ inhibitActive s = false then
    takeClose .overdue none s
  else s

/-- Restore steps 2 to 9 (R190). -/
def restoreSteps (s : State) : State :=
  let s := restoreOverdue (restoreDemand (restoreBlocks s))
  { s with
    engine := if s.store.mode = .run then .ready else .halted
    supply := .runSupply }

/-- Restore step 10: the ports come up, RESTORED is raised to every port, and the owed SUSPECT
notices follow (R190, R191). RESTORED with the cold flag carries a duration of 0 and clears the
marker (R192). -/
def portsComeUp (owed : List RegSlot) (s : State) : State :=
  let cold := s.store.coldMarker
  let s := { s with ports := Vector.replicate 3 idlePort, portsUp := true }
  let s := raise (restoredNotice cold (if cold then 0 else s.retainDuration)) s
  let s := onStore (fun st => { st with coldMarker := false }) s
  owed.foldl (fun s i => raise (suspectNotice i s.store.registers[i] .restore) s) s

/-- The steps of restore from step 2 on; where PFAIL was asserted meanwhile, its drain entry is taken at
step 9 and the ports do not come up (R190, R191). -/
def restoreStored (pfail : Bool) (s : State) : State :=
  let owed := mismatched s
  let s := { restoreSteps s with pfailAsserted := pfail }
  if pfail then enterDrain s else portsComeUp owed s

/-- A restore: the signature is verified first. A signature that fails makes a cold start, which enters
RETAIN with a retain duration of 0: it stays there while PFAIL is asserted, and restores from there where it
is deasserted (R190, R192, log 19). -/
def restored (pfail : Bool) (s : State) : State :=
  if signatureOk s.store then restoreStored pfail s
  else if pfail then { coldStart s with supply := .retain, pfailAsserted := true }
  else restoreStored false (coldStart s)

/-- RESTORE: PFAIL deasserted in RETAIN, or the restore that RETAIN entry began; a deassertion in DRAIN
or RUN-SUPPLY changes no more than the level (R187, R190, log 18). -/
def execRestore (pfailAgain : Bool) (s : State) : Host.Outcome State Fault Refusal :=
  .next (match s.supply with
    | .retain => restored pfailAgain s
    | .restore => restored (s.pfailAsserted || pfailAgain) s
    | .drain | .runSupply => { s with pfailAsserted := false }
    | .unpowered => s)

/-! ### Power-up and the loss of both supplies (R133, R134, R192) -/

/-- POWER_UP: the oscillator starts, the signature is verified, and the part enters RETAIN (R192). The
pulse inputs restart as at restore, and the DEMAND chain stands HELD (R141, log 20). -/
def execPowerUp (pfailDeasserted : Bool) (s : State) : Host.Outcome State Fault Refusal :=
  .next (if s.supply = .unpowered then
    let s := restartInputs (verifyStore { s with prescaler := ⟨0, 0, []⟩, retainDuration := 0 })
    { onChain .demand heldAtReload s with
      pfailAsserted := !pfailDeasserted
      supply := retainOrRestore (!pfailDeasserted) }
  else s)

/-- A lost store: its part mode one that can be retained, as ENTERING_SETUP never is (R171), and its DEMAND
chain without state and count of its own, which are not retained (R141, R185, log 16). -/
def lostStore (n : Nat) : Store :=
  let st := Config.lostStore n
  { st with
    mode := if st.mode = .enteringSetup then .setup else st.mode
    chains := { st.chains with demand := heldAtReload st.chains.demand } }

/-- LOSS_OF_BOTH_SUPPLIES: the ticks stop, the volatile state is lost, and the retained store is in an
unknown state, a free value (R134, R186, log 16). -/
def execLossOfBothSupplies (s : State) : Host.Outcome State Fault Refusal :=
  .next (if s.supply = .unpowered then s
  else
    { loseVolatile s with
      store := lostStore s.freeIndex
      freeIndex := s.freeIndex + 1
      inputs := Vector.replicate 8 disabledInput
      prescaler := ⟨0, 0, []⟩
      retainDuration := 0
      pfailAsserted := true
      supply := .unpowered })

/-! ### The RESET input (R159) -/

/-- A port whose frames are abandoned and whose commands are withdrawn without answer (R159). -/
def abandoned (q : Port) : Port := { q with execution := none, waiting := none, wire := .quiet }

/-- RESET_PIN: for every port what PORT RESET does for one, and every frame and command abandoned
(R159). Where the ports are not powered only the level is noted. -/
def execResetPin (s : State) : Host.Outcome State Fault Refusal :=
  .next (if s.resetLow then s
  else if s.portsUp then
    let s := [0, 1, 2].foldl resetPort { s with ports := s.ports.map abandoned, resetLow := true }
    { freeAllSlots s with claim := none, doneOwed := false }
  else { s with resetLow := true })

/-- RESET_PIN_RELEASE (R159). -/
def execResetPinRelease (s : State) : Host.Outcome State Fault Refusal :=
  .next { s with resetLow := false }

end Sys2Proof.Machine
end

