-- ==== Sys2Proof/Machine/Works.lean ====
section
/-! DEFINITION. The rows of the intake arbiter, the accumulation engine and the setup unit: each is taken
at the moment its own conditions hold, and leaves the state unchanged at any other (log 3). -/

namespace Sys2Proof.Machine

/-- PORT_GRANT: the arbiter grants the port whose turn it is (R25, R26). -/
def execPortGrant (s : State) : Host.Outcome State Fault Refusal :=
  .next (match nextGrant s with
    | some (.port p) =>
      match s.ports[p].execution with
      | some ex => grantPort p ex s
      | none => s
    | some .converter | none => s)

/-- CONVERSION: the arbiter grants the converter, which serves the first eligible input after the one
its pointer names (R25, R58, R59). -/
def execConversion (s : State) : Host.Outcome State Fault Refusal :=
  .next (match nextGrant s with
    | some .converter =>
      match (inputsAfter s.converterPointer).find? (eligible s) with
      | some n => convert n s
      | none => s
    | some (.port _) | none => s)

/-- APPLICATION_START: a service point that chooses the queue (R33, R35). -/
def execApplicationStart (s : State) : Host.Outcome State Fault Refusal :=
  .next (match s.queue with
    | e :: rest =>
      if atServicePoint s ∧ closeWaits s = false ∧ s.captureQueue = [] then
        startApplication e rest s
      else s
    | [] => s)

/-- APPLICATION_COMPLETION (R36). -/
def execApplicationCompletion (s : State) : Host.Outcome State Fault Refusal :=
  .next (match s.engine with
    | .applying e targets => completeApplication e targets s
    | .halted | .ready | .capturing _ _ _ _ | .closing => s)

/-- CAPTURE_START: a service point that chooses the oldest capture, or a capture taken in SETUP (R33,
R34, R38). -/
def execCaptureStart (s : State) : Host.Outcome State Fault Refusal :=
  .next (match s.captureQueue with
    | i :: rest =>
      match openedOf s.slots[i] with
      | some o =>
        if captureTaken s then startCapture i o.list { s with captureQueue := rest } else s
      | none => s
    | [] => s)

/-- CAPTURE_COMPLETION: the copies reach the snapshot unit, the engine is READY, or HALTED in SETUP,
and an edit that waited for it is taken (R32, R38, R40, R122). -/
def execCaptureCompletion (s : State) : Host.Outcome State Fault Refusal :=
  .next (match s.engine with
    | .capturing i withdrawn copies stamp =>
      let s := arriveCapture i withdrawn copies stamp s
      let s := { s with engine := if s.store.mode = .setup then .halted else .ready }
      [0, 1, 2].foldl resumeEdit s
    | .halted | .ready | .applying _ _ | .closing => s)

/-- WRITING_START: a service point that chooses the close (R33, R39, R103). -/
def execWritingStart (s : State) : Host.Outcome State Fault Refusal :=
  .next (match s.currentClose with
    | some c => if atServicePoint s ∧ closeWaits s then startWriting c s else s
    | none => s)

/-- CLOSE_COMPLETION: the record is written (R109). -/
def execCloseCompletion (s : State) : Host.Outcome State Fault Refusal :=
  .next (match s.engine, s.currentClose, s.building with
    | .closing, some c, some b => completeClose c b s
    | _, _, _ => s)

/-- SETUP_CLOSE_PLACEMENT (R181). -/
def execSetupClosePlacement (s : State) : Host.Outcome State Fault Refusal :=
  .next (if setupCloseDue s then placeSetupClose s else s)

end Sys2Proof.Machine
end

