-- ==== Sys2Proof/Machine/Dispatch.lean ====
section
/-! DEFINITION. The effect of every row of the table on everything but the queue of commands. -/

namespace Sys2Proof.Machine

def exec (i : Instr) (s : State) : Host.Outcome State Fault Refusal :=
  match i with
  | .readStatus p args => Sys2Proof.Machine.execReadStatus p args s
  | .readRegister p args => Sys2Proof.Machine.execReadRegister p args s
  | .readLastResult p args => Sys2Proof.Machine.execReadLastResult p args s
  | .readNotices p args => Sys2Proof.Machine.execReadNotices p args s
  | .setNoticeMask p args => Sys2Proof.Machine.execSetNoticeMask p args s
  | .portReset p args => Sys2Proof.Machine.execPortReset p args s
  | .postIncrement p args => Sys2Proof.Machine.execPostIncrement p args s
  | .setTariff p args => Sys2Proof.Machine.execSetTariff p args s
  | .requestClose p args => Sys2Proof.Machine.execRequestClose p args s
  | .readLog p args => Sys2Proof.Machine.execReadLog p args s
  | .readDemand p args => Sys2Proof.Machine.execReadDemand p args s
  | .readPulseInput p args => Sys2Proof.Machine.execReadPulseInput p args s
  | .snapshotOpen p args => Sys2Proof.Machine.execSnapshotOpen p args s
  | .snapshotRead p args => Sys2Proof.Machine.execSnapshotRead p args s
  | .snapshotRenew p args => Sys2Proof.Machine.execSnapshotRenew p args s
  | .snapshotRelease p args => Sys2Proof.Machine.execSnapshotRelease p args s
  | .claimSetup p args => Sys2Proof.Machine.execClaimSetup p args s
  | .releaseSetup p args => Sys2Proof.Machine.execReleaseSetup p args s
  | .defineQuantity p args => Sys2Proof.Machine.execDefineQuantity p args s
  | .bindRegister p args => Sys2Proof.Machine.execBindRegister p args s
  | .unbindRegister p args => Sys2Proof.Machine.execUnbindRegister p args s
  | .setRegisterOptions p args => Sys2Proof.Machine.execSetRegisterOptions p args s
  | .clearRegister p args => Sys2Proof.Machine.execClearRegister p args s
  | .acceptRegister p args => Sys2Proof.Machine.execAcceptRegister p args s
  | .definePulseInput p args => Sys2Proof.Machine.execDefinePulseInput p args s
  | .defineDemandChannel p args => Sys2Proof.Machine.execDefineDemandChannel p args s
  | .defineChain p args => Sys2Proof.Machine.execDefineChain p args s
  | .setTariffSource p args => Sys2Proof.Machine.execSetTariffSource p args s
  | .setCloseOptions p args => Sys2Proof.Machine.execSetCloseOptions p args s
  | .setRights p args => Sys2Proof.Machine.execSetRights p args s
  | .clearLog p args => Sys2Proof.Machine.execClearLog p args s
  | .commit p args => Sys2Proof.Machine.execCommit p args s
  | .reopen p args => Sys2Proof.Machine.execReopen p args s
  | .readConfiguration p args => Sys2Proof.Machine.execReadConfiguration p args s
  | .unknownCommand p code args => Sys2Proof.Machine.execUnknownCommand p code args s
  | .frameError p => Sys2Proof.Machine.execFrameError p s
  | .frameDiscarded p => Sys2Proof.Machine.execFrameDiscarded p s
  | .lengthByteAbove60 p => Sys2Proof.Machine.execLengthByteAbove60 p s
  | .readNoticesResponseLost p => Sys2Proof.Machine.execReadNoticesResponseLost p s
  | .portGrant => Sys2Proof.Machine.execPortGrant s
  | .conversion => Sys2Proof.Machine.execConversion s
  | .applicationStart => Sys2Proof.Machine.execApplicationStart s
  | .applicationCompletion => Sys2Proof.Machine.execApplicationCompletion s
  | .captureStart => Sys2Proof.Machine.execCaptureStart s
  | .captureCompletion => Sys2Proof.Machine.execCaptureCompletion s
  | .writingStart => Sys2Proof.Machine.execWritingStart s
  | .closeCompletion => Sys2Proof.Machine.execCloseCompletion s
  | .setupClosePlacement => Sys2Proof.Machine.execSetupClosePlacement s
  | .sampleTick pls closein => Sys2Proof.Machine.execSampleTick pls closein s
  | .secondTick tsel1 tsel0 first => Sys2Proof.Machine.execSecondTick tsel1 tsel0 first s
  | .minuteTick first => Sys2Proof.Machine.execMinuteTick first s
  | .pulseJudgement n high => Sys2Proof.Machine.execPulseJudgement n high s
  | .rearmComplete n => Sys2Proof.Machine.execRearmComplete n s
  | .recognizedFallingEdge => Sys2Proof.Machine.execRecognizedFallingEdge s
  | .recognizedRisingEdge => Sys2Proof.Machine.execRecognizedRisingEdge s
  | .demandExpiry => Sys2Proof.Machine.execDemandExpiry s
  | .overdueExpiry => Sys2Proof.Machine.execOverdueExpiry s
  | .inhibitExpiry => Sys2Proof.Machine.execInhibitExpiry s
  | .leaseExpiry slot => Sys2Proof.Machine.execLeaseExpiry slot s
  | .drainEntry => Sys2Proof.Machine.execDrainEntry s
  | .retainEntry => Sys2Proof.Machine.execRetainEntry s
  | .restore pfailAgain => Sys2Proof.Machine.execRestore pfailAgain s
  | .powerUp pfailDeasserted => Sys2Proof.Machine.execPowerUp pfailDeasserted s
  | .resetPin => Sys2Proof.Machine.execResetPin s
  | .resetPinRelease => Sys2Proof.Machine.execResetPinRelease s
  | .lossOfBothSupplies => Sys2Proof.Machine.execLossOfBothSupplies s

end Sys2Proof.Machine
end

