-- ==== Sys2Proof/Safety.lean ====
section
/-! DEFINITION. The laws that the rules state of every state the part can be in, the conditions under which
a frame's command runs at once, and the answer a port then sends. -/

namespace Sys2Proof.Machine

/-! ### When a command runs, and what its port then holds -/

/-- The port decodes frames and has no command in execution, and the part is not draining: the
conditions on the port and the supply under which a frame's command runs at once (R148, R149,
R156, R159). -/
abbrev Takes (p : PortId) (s : State) : Prop :=
  listening s = true ∧ s.ports[p].execution = none ∧ s.supply ≠ .drain

/-- The same, with the part in SETUP, the port holding the claim, and the engine not capturing: the
conditions under which an edit or COMMIT runs at once (R40, R173, R176). -/
abbrev Edits (p : PortId) (s : State) : Prop :=
  Takes p s ∧ s.store.mode = .setup ∧ s.claim = some p ∧ capturing s = false

/-- A port as a new frame finds it: no earlier frame is open (R145, R148). -/
def framed (q : Port) : Port :=
  { q with
    execution := q.execution.map fun e => { e with frameOpen := false }
    waiting := q.waiting.map fun e => { e with frameOpen := false }
    wire := .quiet }

/-- A port that has answered a frame at once: the response on the wire, and the last-result record,
tag 0, where the command writes it (R147, R150). -/
def answered (q : Port) (k : CommandKind) (st : Status) (data : List Byte) (counter : BitVec 32) :
    Port :=
  { framed q with
    lastResult := if recorded k st then some ⟨kindCode k, 0, st, counter⟩ else q.lastResult
    wire := .response ⟨some k, st, data⟩ }

/-- The state in which a port has answered a frame at once and nothing else has changed. -/
def afterAnswer (p : PortId) (k : CommandKind) (st : Status) (data : List Byte) (s : State) : State :=
  onPort p (fun q => answered q k st data s.store.applicationCounter) s

/-- A command answered with a status and no data, and with no effect beyond its port's frame and
last-result record. The recorded tag is that of a POST INCREMENT, where its length is right, and 0 for every
other command (R150). -/
def refusedWith (i : Instr) (p : PortId) (k : CommandKind) (args : List Byte) (st : Status)
    (s : State) : Prop :=
  ∃ lr : Option LastResult,
    exec i s = .next (onPort p (fun q =>
      { framed q with lastResult := lr, wire := .response ⟨some k, st, []⟩ }) s)
    ∧ (k = .readLastResult → lr = s.ports[p].lastResult)
    ∧ (k ≠ .readLastResult → ∃ tag : Byte,
        lr = some ⟨kindCode k, tag, st, s.store.applicationCounter⟩
        ∧ (k ≠ .postIncrement → tag = 0)
        ∧ (k = .postIncrement → args.length = 6 → tag = arg args 5))

/-- A port whose command in execution has its result: the last-result record, and the response where the
frame is still open; a READ NOTICES whose frame has ended loses its notices (R147, R150, R151). -/
def finished (q : Port) (ex : Execution) (st : Status) (data : List Byte) (counter : BitVec 32) :
    Port :=
  { q with
    execution := none
    lastResult :=
      if recorded ex.command.kind st then
        some ⟨kindCode ex.command.kind, resultTag ex.command, st, counter⟩
      else q.lastResult
    wire := if ex.frameOpen then .response ⟨some ex.command.kind, st, data⟩ else q.wire
    overrun := q.overrun || (!ex.frameOpen && carriesNotices ex.command.kind st data) }

/-! ### What a port is told -/

/-- A notice offered to a port: it joins the newest end of the queue, or is dropped with OVERRUN set where
8 wait already (R153). -/
def queued (n : Notice) (q : Port) : Port :=
  if q.notices.length < 8 then { q with notices := q.notices ++ [n], attn := true }
  else { q with overrun := true }

/-- A port after notices have been offered to it in order: each that its mask lets through, and none where
the part queues no notices (R152, R155, R156). -/
def told (s : State) (ns : List Notice) (p : PortId) : Port :=
  if s.portsUp = true ∧ s.supply = .runSupply then
    ns.foldl (fun q n => if maskEnables q.mask n.kind then queued n q else q) s.ports[p]
  else s.ports[p]

/-- Whether a register's verification makes it SUSPECT: bound, not SUSPECT already, its check word wrong
(R16). -/
def newlySuspect (s : State) (i : RegSlot) : Bool :=
  s.store.registers[i].state != .free && s.store.registers[i].state != .suspect
    && !checkMatches s i s.store.registers[i]

/-- The SUSPECT notices of a list of registers, one for each that its verification makes SUSPECT (R16). -/
def suspectNotices (f : FoundAt) (s : State) (is : List RegSlot) : List Notice :=
  (is.filter (newlySuspect s)).map fun i => suspectNotice i s.store.registers[i] f

/-! ### Laws -/

/-- R153: a port's notice queue holds at most 8 notices, and ATTN is asserted exactly when it is not
empty. -/
abbrev NoticeLaw (s : State) : Prop :=
  ∀ p : PortId, s.ports[p].notices.length ≤ 8 ∧ s.ports[p].attn = !s.ports[p].notices.isEmpty

/-- Whether a port placed an entry. -/
def fromPort (e : Increment) : Bool := e.source != .converter

/-- R22: at most 32 entries in the increment queue, at most 28 of them placed by a port. -/
abbrev QueueLaw (s : State) : Prop :=
  s.queue.length ≤ queueLimit ∧ s.queue.countP fromPort ≤ 28

/-- R118: no port holds more than 2 snapshot slots. -/
abbrev SlotLaw (s : State) : Prop := ∀ p : PortId, slotCount s p ≤ 2

/-- R172: the setup claim is held only in SETUP. -/
abbrev ClaimLaw (s : State) : Prop := s.claim ≠ none → s.store.mode = .setup

/-- The bytes and the number of records that the close in WRITING adds at its completion. -/
def addedBytes (s : State) : Nat := (s.building.map (·.bytes.length)).getD 0
def addedRecords (s : State) : Nat := s.building.isSome.toNat

/-- R106: at most 32 records and 2048 bytes, the record being written counted with them. -/
abbrev LogLaw (s : State) : Prop :=
  s.store.log.entries.length + addedRecords s ≤ logRecordLimit
  ∧ bytesUsed s.store.log.entries + addedBytes s ≤ logByteLimit

/-- R47: pending counts and remainders in their ranges, both zero for a disabled input. -/
abbrev PulseLaw (s : State) : Prop :=
  ∀ n : InputId,
    s.store.pulseCounts[n].pending ≤ pendingLimit
    ∧ s.store.pulseCounts[n].remainder < 10 ^ s.store.pulseDefs[n].fraction
    ∧ (s.store.pulseDefs[n].enabled = false →
        s.store.pulseCounts[n].pending = 0 ∧ s.store.pulseCounts[n].remainder = 0)

/-- One entry of the chain table keeps R135: an unassigned entry holds zeros; an assigned one lies
within G0 to G3, and its reload value and count fit its segments. -/
abbrev ChainFits (c : Chain) : Prop :=
  if c.state = .unassigned then c = unassignedChain
  else
    1 ≤ c.length ∧ c.first + c.length ≤ 4 ∧ 1 ≤ c.reload ∧ c.reload < 4096 ^ c.length
    ∧ c.count < 4096 ^ c.length

/-- Two assigned chains share no segment. -/
abbrev Apart (c d : Chain) : Prop :=
  assigned c = true → assigned d = true →
    c.first + c.length ≤ d.first ∨ d.first + d.length ≤ c.first

/-- R135: every entry fits, and each segment belongs to at most one chain. -/
abbrev ChainLaw (s : State) : Prop :=
  let cs := s.store.chains
  (ChainFits cs.demand ∧ ChainFits cs.overdue ∧ ChainFits cs.inhibit)
  ∧ Apart cs.demand cs.overdue ∧ Apart cs.demand cs.inhibit ∧ Apart cs.overdue cs.inhibit

/-- Without VDD, and in the restore: the ports, the queue and all volatile work are gone, and the mode
is one that is retained (R171, R185, R189). -/
abbrev AsleepLaw (s : State) : Prop :=
  s.supply ≠ .runSupply → s.supply ≠ .drain →
    s.portsUp = false ∧ (∀ p : PortId, s.ports[p].execution = none) ∧ s.queue = []
    ∧ s.engine = .halted ∧ s.captureQueue = [] ∧ s.claim = none ∧ s.closeState = .idle
    ∧ s.store.mode ≠ .enteringSetup

/-- The close state, the current close, the record and the engine agree (R89, R102, R103). -/
abbrev CloseLaw (s : State) : Prop :=
  (s.closeState = .idle ↔ s.currentClose = none)
  ∧ (s.closeState = .writing ↔ s.engine = .closing)
  ∧ (s.closeState = .writing ↔ s.building ≠ none)

/-- In SETUP the engine is HALTED, or CAPTURING; and it is HALTED nowhere else but without VDD (R32,
R34). -/
abbrev EngineLaw (s : State) : Prop :=
  (s.store.mode = .setup → s.engine = .halted ∨ capturing s = true)
  ∧ (s.engine = .halted →
      s.store.mode = .setup ∨ (s.supply ≠ .runSupply ∧ s.supply ≠ .drain))

/-- A REOPEN requester is recorded exactly in ENTERING_SETUP, and the close in flight is the SETUP
close exactly there (R180 to R183). -/
abbrev ReopenLaw (s : State) : Prop :=
  (s.reopen ≠ none ↔ s.store.mode = .enteringSetup)
  ∧ ∀ c ∈ s.currentClose, (c.cause = .setup ↔ s.store.mode = .enteringSetup)

/-- The DEMAND chain runs in RUN-SUPPLY only (R139, R141). -/
abbrev DemandLaw (s : State) : Prop :=
  s.supply ≠ .runSupply → s.store.chains.demand.state ≠ .running

/-- The ticks keep their ratios (R133): never more than one tick of a kind is owed or taken ahead, and the
60th second tick and its minute tick fall at one moment. -/
abbrev PhaseLaw (s : State) : Prop :=
  -1 ≤ s.prescaler.samples ∧ s.prescaler.samples ≤ 1024
  ∧ -1 ≤ s.prescaler.seconds ∧ s.prescaler.seconds ≤ 60
  ∧ (s.prescaler.seconds = 60 → s.prescaler.samples ≤ 0)
  ∧ (s.prescaler.seconds = -1 → 1023 ≤ s.prescaler.samples)

/-- The volatile state agrees with itself. -/
abbrev Coherent (s : State) : Prop :=
  AsleepLaw s ∧ CloseLaw s ∧ EngineLaw s ∧ ReopenLaw s ∧ ClaimLaw s ∧ DemandLaw s ∧ PhaseLaw s

/-- R6: at most one register in LIVE or OVERFLOWED for each quantity and selector. -/
abbrev BindingLaw (s : State) : Prop :=
  ∀ i j : RegSlot, i ≠ j →
    (s.store.registers[i].state = .live ∨ s.store.registers[i].state = .overflowed) →
    (s.store.registers[j].state = .live ∨ s.store.registers[j].state = .overflowed) →
    s.store.registers[i].quantity ≠ s.store.registers[j].quantity
      ∨ s.store.registers[i].selector ≠ s.store.registers[j].selector

/-- The targets of the application in flight. -/
def targetsInFlight : Engine → List Target
  | .applying _ targets => targets
  | .halted | .ready | .capturing _ _ _ _ | .closing => []

/-- The targets of the application in flight stand in their slots as they were taken, unless one has
become SUSPECT since (R9, R35). -/
abbrev TargetLaw (s : State) : Prop :=
  ∀ t ∈ targetsInFlight s.engine,
    s.store.registers[t.slot] = t.record ∨ s.store.registers[t.slot].state = .suspect

/-- Whether the command at the front takes both supplies away, which leaves the retained store in an
unknown state (R134, R186). -/
def losesStore (s : State) : Bool :=
  match s.pending with
  | .lossOfBothSupplies :: _ => true
  | _ => false

/-- A law that every step keeps: where the state after a step is a next state, the law holds there
too. -/
def Kept (law : State → Prop) : Prop := ∀ s t : State, law s → step s = .next t → law t

/-- A law of the retained store that every step keeps but the loss of both supplies. -/
def KeptWithStore (law : State → Prop) : Prop :=
  ∀ s t : State, losesStore s = false → law s → step s = .next t → law t

end Sys2Proof.Machine
end

