-- ==== Sys2Proof/Certificates/Slice0/Obligations.lean ====
section
/-! DEFINITION. The statements about the part. A statement that ends in `exec … = .next t` with `t` written
out says the result, that the row completes, and its frame: what `t` does not name is as it was. -/

open Sys2Proof Sys2Proof.Machine

/-! ### The queue of commands, reset, frames -/

/-- A step runs the command at the front of the queue on the state with the queue's rest; on an empty
queue the block idles. The queue and the idling are the model's choice (log 2). -/
def Obligations.StepRunsFrontCommandOrIdles : Prop :=
  (∀ (c : Instr) (rest : List Instr) (s : State),
    step { s with pending := c :: rest } = exec c { s with pending := rest })
  ∧ ∀ s : State, s.pending = [] → step s = .next s

/-- What a cold start and the restore after it leave (R192 and the reset tables). That State.reset is
this moment, the level of RESET, and that no part of a tick has been taken ahead, are the model's choices
(logs 1, 26 and 4). -/
def Obligations.ResetHoldsColdStartValues : Prop :=
  let s := State.reset
  (s.store.mode = .setup ∧ s.supply = .runSupply ∧ s.engine = .halted ∧ s.queue = []
    ∧ s.captureQueue = [] ∧ s.claim = none ∧ s.reopen = none ∧ s.arbiterPointer = .converter
    ∧ s.converterPointer = 7 ∧ s.lineHistory = none ∧ s.latch = false
    ∧ s.recognizer.level = .unknown ∧ s.recognizer.runCount = 0 ∧ s.closeState = .idle
    ∧ s.currentClose = none ∧ s.doneOwed = false ∧ s.intervalPartial = true
    ∧ s.retainDuration = 0 ∧ s.prescaler = ⟨0, 0, []⟩)
  ∧ (s.store.activeTariff = .t1 ∧ s.store.sourceMode = .command
    ∧ s.store.closeOptions = ⟨.off, false, false⟩ ∧ s.store.periodNumber = 1
    ∧ s.store.periodDuration = 0 ∧ s.store.overdueHeld = false ∧ s.store.applicationCounter = 0
    ∧ s.store.log.entries = [] ∧ s.store.intervalIndex = 0
    ∧ (∀ f : ChainFn, (chainOf s.store.chains f).state = .unassigned)
    ∧ s.store.rights[0] = ⟨0xFF, true, true, true, true⟩
    ∧ s.store.rights[1] = ⟨0, false, false, true, false⟩
    ∧ s.store.rights[2] = ⟨0, false, false, true, false⟩ ∧ signatureOk s.store = true
    ∧ s.store.coldMarker = false)
  ∧ (∀ q : Quantity, s.store.quantities[q] = ⟨false, 0⟩)
  ∧ (∀ i : RegSlot, s.store.registers[i] = freeRegister)
  ∧ (∀ c : ChannelId, s.store.channels[c].quantity = none ∧ s.accumulators[c] = 0
      ∧ ∀ t : Fin 4, s.store.channels[c].maxima[t] = ⟨0, 0⟩)
  ∧ (∀ n : InputId, s.store.pulseDefs[n] = ⟨false, false, true, 1, 1, 0, 1, 0, 1⟩
      ∧ s.store.pulseCounts[n] = ⟨0, 0, 0, 0, false⟩ ∧ s.inputs[n].frontEnd = .disabled
      ∧ s.inputs[n].eligible = false)
  ∧ (∀ i : SnapId, s.slots[i] = .free)
  ∧ ∀ p : PortId, s.ports[p].execution = none ∧ s.ports[p].waiting = none
      ∧ s.ports[p].lastResult = none ∧ s.ports[p].notices = [⟨.restored, 1, 0, 0, 0, 0⟩]
      ∧ s.ports[p].attn = true ∧ s.ports[p].overrun = false ∧ s.ports[p].mask = 0x3F#6

/-- Every law holds of the state after reset. -/
def Obligations.ResetKeepsEveryLaw : Prop :=
  (NoticeLaw State.reset ∧ QueueLaw State.reset ∧ SlotLaw State.reset ∧ LogLaw State.reset
    ∧ PulseLaw State.reset ∧ ChainLaw State.reset)
  ∧ Coherent State.reset ∧ BindingLaw State.reset ∧ TargetLaw State.reset

/-- The request of every command, decoded as a frame of its port, is that command with every argument byte
it was given. That a command row stands for a frame is the model's reading (log 7). -/
def Obligations.DecodeOfRequestIsTheCommand : Prop :=
  ∀ (i : Instr) (p : PortId) (k : CommandKind) (args : List Byte),
    i.wellFormed = true → requestOf i = some (p, k, args) →
      decodeFrame p (requestBytes k args) = i

/-! ### Ports -/

/-- READ STATUS, READ LAST RESULT, READ DEMAND and READ CONFIGURATION answer OK with the fields of their
rules, and change nothing but their own port's frame and record; an item or an index of READ CONFIGURATION out of
its range is refused with BAD_ARGUMENT. The empty data of a refusal is the model's reading (log 9). -/
def Obligations.ReadsAnswerFromTheState : Prop :=
  ∀ (p : PortId) (s : State), Takes p s →
    exec (.readStatus p []) s = .next (afterAnswer p .readStatus .ok
      ([byte (modeNat s.store.mode), tariffCode s.store.activeTariff]
        ++ bigEndian 2 s.store.periodNumber.toNat ++ bigEndian 2 s.store.periodDuration
        ++ [byte (closeStateNat s.closeState), boolCode (inhibitActive s)]
        ++ bigEndian 4 s.store.applicationCounter.toNat
        ++ [byte s.queue.length, optionCode s.claim, byte (slotCount s p)]) s)
    ∧ exec (.readLastResult p []) s = .next (afterAnswer p .readLastResult .ok
      (match s.ports[p].lastResult with
        | none => [0, 0, 0, 0, 0, 0, 0, 0]
        | some r => [1, r.code, r.tag, statusCode r.status] ++ bigEndian 4 r.counter.toNat) s)
    ∧ (∀ c : ChannelId, exec (.readDemand p [byte c.val]) s = .next (afterAnswer p .readDemand .ok
      ([byte c.val, optionCode s.store.channels[c].quantity] ++ packedDecimal 5 s.accumulators[c]
        ++ s.store.channels[c].maxima.toList.flatMap
            (fun e => packedDecimal 5 e.maximum ++ bigEndian 2 e.index)
        ++ bigEndian 2 s.store.intervalIndex ++ [boolCode s.intervalPartial]
        ++ bigEndian 4 s.store.applicationCounter.toNat) s))
    ∧ (let reports (item index : Byte) (fields : List Byte) : Prop :=
        exec (.readConfiguration p [item, index]) s
          = .next (afterAnswer p .readConfiguration .ok ([item, index] ++ fields) s)
      (∀ q : Quantity, let x := s.store.quantities[q]
        reports 0 (byte q.val) [boolCode x.defined, byte x.scale])
      ∧ (∀ n : InputId, let d := s.store.pulseDefs[n]
        reports 1 (byte n.val)
          ([boolCode d.enabled, boolCode d.activeHigh, boolCode d.pullUp, byte d.spacing,
            byte d.rearmTime, byte d.quantity.val] ++ packedDecimal 2 d.mantissa
            ++ [byte d.fraction, byte d.threshold]))
      ∧ (∀ c : ChannelId, reports 2 (byte c.val) [optionCode s.store.channels[c].quantity])
      ∧ (∀ f : ChainFn, let c := chainOf s.store.chains f
        reports 3 (match f with
            | .demand => 0 | .overdue => 1 | .inhibit => 2)
          ([boolCode (decide (c.state ≠ .unassigned)), byte c.first, byte c.length,
            byte (chainTickNat c.tick)] ++ bigEndian 6 c.reload ++ [byte (chainStateNat c.state)]
            ++ bigEndian 6 c.count))
      ∧ reports 4 0 [byte (sourceNat s.store.sourceMode), tariffCode s.store.activeTariff]
      ∧ reports 5 0 [byte (lineModeNat s.store.closeOptions.lineMode),
          boolCode s.store.closeOptions.overdueEnabled,
          boolCode s.store.closeOptions.inhibitEnabled]
      ∧ ∀ q : PortId, let r := s.store.rights[q]
        reports 6 (byte q.val) [r.postMask, byte (r.tariff.toNat + 2 * r.close.toNat
          + 4 * r.snap.toNat + 8 * r.setup.toNat)])
    ∧ ∀ item index : Byte,
        (6 < item.toNat ∨ (item.toNat ≤ 1 ∧ 7 < index.toNat)
          ∨ (item.toNat = 2 ∧ 3 < index.toNat)
          ∨ ((item.toNat = 3 ∨ item.toNat = 6) ∧ 2 < index.toNat)
          ∨ ((item.toNat = 4 ∨ item.toNat = 5) ∧ 0 < index.toNat)) →
        exec (.readConfiguration p [item, index]) s
          = .next (afterAnswer p .readConfiguration .badArgument [] s)

/-- READ NOTICES removes the oldest notices, at most 6, reports how many and how many are left and
OVERRUN as found, and clears OVERRUN and ATTN where the queue is left empty. -/
def Obligations.ReadNoticesRemovesTheOldest : Prop :=
  ∀ (p : PortId) (s : State), Takes p s →
    exec (.readNotices p []) s = .next (onPort p (fun q =>
      { answered q .readNotices .ok
          ([byte (min 6 q.notices.length), byte (q.notices.length - 6), boolCode q.overrun]
            ++ (q.notices.take 6).flatMap noticeBytes) s.store.applicationCounter with
        notices := q.notices.drop 6
        attn := decide (6 < q.notices.length)
        overrun := q.overrun && decide (6 < q.notices.length) }) s)

/-- SET NOTICE MASK writes the port's own mask, and refuses a mask with bit 6 or 7 set. PORT RESET empties
its port, frees the port's snapshot slots and withdraws their capture requests, a capture in progress
included, releases its claim, cancels what is owed to it, and touches nothing else. The empty data of a
refusal is the model's reading (log 9). -/
def Obligations.MaskWrittenAndPortReset : Prop :=
  ∀ (p : PortId) (s : State), Takes p s →
    (∀ m : Byte, m.toNat < 64 →
      exec (.setNoticeMask p [m]) s = .next (onPort p (fun q =>
        { answered q .setNoticeMask .ok [m] s.store.applicationCounter with
          mask := m.setWidth 6 }) s))
    ∧ (∀ m : Byte, 64 ≤ m.toNat →
      exec (.setNoticeMask p [m]) s = .next (afterAnswer p .setNoticeMask .badArgument [] s))
    ∧ ∃ t : State, exec (.portReset p []) s = .next t
      ∧ t.ports = s.ports.set p
          { answered s.ports[p] .portReset .ok [] s.store.applicationCounter with
            notices := [], attn := false, overrun := false, mask := 0x3F#6, lastResult := none }
      ∧ (∀ i : SnapId, t.slots[i] =
          if slotHolder s.slots[i] = some p then .free else s.slots[i])
      ∧ t.captureQueue = s.captureQueue.filter (fun i => slotHolder s.slots[i] != some p)
      ∧ t.engine = (match s.engine with
          | .capturing j w copies stamp =>
            .capturing j (w || slotHolder s.slots[j] == some p) copies stamp
          | e => e)
      ∧ t.claim = (if s.claim = some p then none else s.claim)
      ∧ t.doneOwed = (if (s.currentClose.bind (·.requester)) = some p then false else s.doneOwed)
      ∧ t.reopen
          = s.reopen.map (fun r => if r.requester = p then { r with owed := false } else r)
      ∧ t = { s with
          ports := t.ports, slots := t.slots, captureQueue := t.captureQueue, engine := t.engine,
          claim := t.claim, doneOwed := t.doneOwed, reopen := t.reopen }

/-- The frames that bring no command of the table: an unknown code is answered and recorded; a check byte
that does not match is answered FRAME_ERROR and not recorded; a frame cut short is not answered; a length
byte above 60 is answered with wait bytes only. The data output is high-impedance while chip select is high,
and carries wait bytes through the request and until there is a result, then the start byte, then the response
with the flags and the check byte of the moment of its start byte, whatever the state is by then, then FF. Over a
run, a byte comes of each state in which one is clocked, and the other states leave the frame where it is. That
a new frame ends the port's earlier ones is the model's reading (log 30), so is the moment of the start byte (log
8), and chip select and the place in the frame are operands of what is driven (log 29); the empty data of a
refusal is the model's reading too (log 9). -/
def Obligations.FramesWithoutACommand : Prop :=
  ∀ (p : PortId) (s : State), listening s = true →
    (∀ (code : Byte) (args : List Byte), (Instr.unknownCommand p code args).wellFormed = true →
      s.ports[p].execution = none →
      exec (.unknownCommand p code args) s
        = .next (afterAnswer p (.unknown code) .unknownCommand [] s))
    ∧ exec (.frameError p) s = .next (onPort p (fun q =>
        { framed q with wire := .response ⟨none, .frameError, []⟩ }) s)
    ∧ exec (.frameDiscarded p) s = .next (onPort p framed s)
    ∧ exec (.lengthByteAbove60 p) s
        = .next (onPort p (fun q => { framed q with wire := .waitBytes }) s)
    ∧ drivenByte s p .unselected = none
    ∧ drivenByte s p .request = some 0xEE ∧ phaseAfterByte s p .request = .request
    ∧ (∀ phase : FramePhase, phaseIn s phase = phase)
    ∧ (∀ (phase : FramePhase) (rest : List (State × Bool)),
        drivenBytes p phase [] = []
        ∧ drivenBytes p phase ((s, true) :: rest)
          = drivenByte s p phase :: drivenBytes p (phaseAfterByte s p phase) rest
        ∧ drivenBytes p phase ((s, false) :: rest) = drivenBytes p phase rest)
    ∧ (s.ports[p].wire = .waitBytes →
        drivenByte s p .waiting = some 0xEE ∧ phaseAfterByte s p .waiting = .waiting)
    ∧ ∀ r : Response, s.ports[p].wire = .response r →
        let q := s.ports[p]
        let flags : Byte := byte ((if q.notices = [] then 0 else 1) + (if q.overrun then 2 else 0)
          + (match s.store.mode with
            | .run => 0
            | .setup => 4
            | .enteringSetup => 8))
        let body := [statusCode r.status, flags, byte r.data.length] ++ r.data
        drivenByte s p .waiting = some 0xA5
        ∧ phaseAfterByte s p .waiting = .sending (body ++ [crc8 body])
        ∧ (∀ (b : Byte) (rest : List Byte), drivenByte s p (.sending (b :: rest)) = some b
            ∧ phaseAfterByte s p (.sending (b :: rest)) = .sending rest)
        ∧ drivenByte s p (.sending []) = some 0xFF
        ∧ phaseAfterByte s p (.sending []) = .sending []

/-- A READ NOTICES response lost sets OVERRUN if it carried notices, and sets nothing if it carried none.
That the response stands on the port until then is the model's choice (log 29). -/
def Obligations.LostNoticesSetOverrun : Prop :=
  ∀ (p : PortId) (data : List Byte) (s : State),
    s.ports[p].wire = .response ⟨some .readNotices, .ok, data⟩ →
    (arg data 0 ≠ 0 → exec (.readNoticesResponseLost p) s
      = .next (onPort p (fun q => { q with overrun := true, wire := .quiet }) s))
    ∧ (arg data 0 = 0 → exec (.readNoticesResponseLost p) s
      = .next (onPort p (fun q => { q with wire := .quiet }) s))

/-- Steps 3 to 6 of the common order of checks, each with the earlier ones passed: the length, the drain,
the part mode, the claim of an edit, and the right of REQUEST CLOSE, SNAPSHOT OPEN, CLAIM SETUP and REOPEN.
The result recorded carries the tag of a POST INCREMENT and 0 for any other command. The empty data of a
refusal is the model's reading (log 9), and the tag of a POST whose length is wrong a free value (log 11). -/
def Obligations.CommonChecksInOrder : Prop :=
  ∀ (i : Instr) (p : PortId) (k : CommandKind) (args : List Byte) (s : State),
    i.wellFormed = true → requestOf i = some (p, k, args) → known k = true →
    listening s = true → s.ports[p].execution = none →
    (lengthAllowed k args.length = false → refusedWith i p k args .badLength s)
    ∧ (lengthAllowed k args.length = true → s.supply = .drain →
        refusedWith i p k args .powerFail s)
    ∧ (lengthAllowed k args.length = true → s.supply ≠ .drain →
        modeAllowed k s.store.mode = false → refusedWith i p k args .wrongMode s)
    ∧ (lengthAllowed k args.length = true → s.supply ≠ .drain → s.store.mode = .setup →
        (isEdit k = true ∨ k = .commit ∨ k = .releaseSetup) → s.claim ≠ some p →
        refusedWith i p k args .notClaimed s)
    ∧ (lengthAllowed k args.length = true → s.supply ≠ .drain →
        modeAllowed k s.store.mode = true →
        ((k = .requestClose ∧ s.store.rights[p].close = false)
          ∨ (k = .snapshotOpen ∧ s.store.rights[p].snap = false)
          ∨ ((k = .claimSetup ∨ k = .reopen) ∧ s.store.rights[p].setup = false)) →
        refusedWith i p k args .noRight s)

/-- A command whose frame ends while another is in execution is held as the waiting command; where one waits
already, its frame is discarded. The waiting command enters execution when the command before it has its
result: it is checked against the state left then, run by its own block, and its result recorded, and sent
where its frame is still open; a POST then waits at the arbiter, and an edit behind a capture in progress
(log 12). That a new frame ends the port's earlier ones is the model's reading (log
30); the empty data of a refusal too (log 9). -/
def Obligations.SecondFrameWaits : Prop :=
  (∀ (i : Instr) (p : PortId) (k : CommandKind) (args : List Byte) (s : State),
    i.wellFormed = true → requestOf i = some (p, k, args) → listening s = true →
    s.ports[p].execution ≠ none →
    (s.ports[p].waiting = none → exec i s = .next (onPort p (fun q =>
      { framed q with waiting := some ⟨⟨k, args⟩, true⟩, wire := .waitBytes }) s))
    ∧ (s.ports[p].waiting ≠ none → exec i s = .next (onPort p framed s)))
  ∧ ∀ (p : PortId) (s : State),
    (s.ports[p].execution ≠ none ∨ s.ports[p].waiting = none → takeWaiting s p = s)
    ∧ ∀ w : Execution, s.ports[p].execution = none → s.ports[p].waiting = some w →
      let left := onPort p (fun q => { q with waiting := none }) s
      let ends (t : State) (st : Status) (data : List Byte) : State :=
        onPort p (fun q => finished q w st data t.store.applicationCounter) t
      let stays (t : State) : State := onPort p (fun q =>
        { q with execution := some w, wire := if w.frameOpen then .waitBytes else q.wire }) t
      (∀ st : Status, commonRefusal p w.command left = some st →
        takeWaiting s p = ends left st [])
      ∧ (∀ (t : State) (st : Status) (data : List Byte), commonRefusal p w.command left = none →
        (takenByEngine w.command.kind = false ∨ capturing s = false ∨ st ≠ .ok) →
        dispatched p w.command left = ⟨t, some (st, data)⟩ → takeWaiting s p = ends t st data)
      ∧ (∀ t : State, commonRefusal p w.command left = none →
        dispatched p w.command left = ⟨t, none⟩ → takeWaiting s p = stays t)
      ∧ ∀ (t : State) (data : List Byte), commonRefusal p w.command left = none →
        takenByEngine w.command.kind = true → capturing s = true →
        dispatched p w.command left = ⟨t, some (.ok, data)⟩ → takeWaiting s p = stays left

/-! ### Registers of account -/

/-- READ REGISTER reports the committed record; a record whose check word does not match becomes
SUSPECT first, with its SUSPECT notice; one that is SUSPECT already only gets its check word anew. -/
def Obligations.ReadRegisterVerifiesAndReports : Prop :=
  ∀ (p : PortId) (i : RegSlot) (s : State), Takes p s →
    let r := s.store.registers[i]
    let report (r : RegisterRec) : List Byte :=
      registerReport i (scaleOf s r.quantity) r s.store.applicationCounter
    (r.state = .free ∨ checkMatches s i r = true →
      exec (.readRegister p [byte i.val]) s
        = .next (afterAnswer p .readRegister .ok (report r) s))
    ∧ (r.state = .live ∨ r.state = .overflowed → checkMatches s i r = false →
      exec (.readRegister p [byte i.val]) s
        = .next (afterAnswer p .readRegister .ok (report (markedSuspect r))
            (raise (suspectNotice i r .read) (putRegister i (markedSuspect r) s))))
    ∧ (r.state = .suspect → checkMatches s i r = false →
      exec (.readRegister p [byte i.val]) s
        = .next (afterAnswer p .readRegister .ok (report r) (putRegister i r s)))

/-- DEFINE QUANTITY writes a record that nothing refers to, with scale 0 for an undefined quantity, and the
signature with it; arguments out of their ranges are refused with BAD_ARGUMENT first, a record that
something refers to with CONFLICT. The empty data of a refusal is the model's reading (log 9). -/
def Obligations.DefineQuantityWritesAnUnusedRecord : Prop :=
  (∀ (p : PortId) (a b c : Byte) (s : State), Edits p s →
    (8 ≤ a.toNat ∨ 2 ≤ b.toNat ∨ 4 ≤ c.toNat) →
    exec (.defineQuantity p [a, b, c]) s
      = .next (afterAnswer p .defineQuantity .badArgument [] s))
  ∧ ∀ (p : PortId) (q : Quantity) (defined : Bool) (k : Fin 4) (s : State), Edits p s →
    let unused : Prop :=
      (∀ i : RegSlot, s.store.registers[i].state ≠ .free → s.store.registers[i].quantity ≠ q)
      ∧ (∀ n : InputId, s.store.pulseDefs[n].enabled = true → s.store.pulseDefs[n].quantity ≠ q)
      ∧ ∀ c : ChannelId, s.store.channels[c].quantity ≠ some q
    let row := Instr.defineQuantity p [byte q.val, boolCode defined, byte k.val]
    (unused → exec row s = .next (afterAnswer p .defineQuantity .ok []
      { s with store := writeSignature { s.store with
          quantities := s.store.quantities.set q ⟨defined, if defined then k.val else 0⟩ } }))
    ∧ (¬ unused → exec row s = .next (afterAnswer p .defineQuantity .conflict [] s))

/-- BIND REGISTER makes a FREE slot LIVE at zero with the given fields and its check word; a slot in use or
a pair in use is refused with CONFLICT, an undefined quantity with BAD_ARGUMENT. The empty data of a refusal
is the model's reading (log 9). -/
def Obligations.BindRegisterStartsAtZero : Prop :=
  ∀ (p : PortId) (i : RegSlot) (q : Quantity) (sel : Fin 5) (d : Nat) (pol : Policy)
    (arch reset : Bool) (s : State), Edits p s → 6 ≤ d → d ≤ 12 →
    let pairFree : Prop := ∀ j : RegSlot, j ≠ i → s.store.registers[j].state ≠ .free →
      s.store.registers[j].quantity ≠ q ∨ s.store.registers[j].selector ≠ BitVec.ofNat 3 sel.val
    let r : RegisterRec :=
      { state := .live, quantity := q, selector := BitVec.ofNat 3 sel.val,
        digits := BitVec.ofNat 4 d, policy := pol, archive := arch, periodReset := reset,
        value := digitsOfNat 12 0, residue := digitsOfNat 3 0, wrapCount := 0, check := 0 }
    let row := Instr.bindRegister p
      [byte i.val, byte q.val, byte sel.val, byte d, byte (policyNat pol), boolCode arch,
       boolCode reset]
    (s.store.quantities[q].defined = true → s.store.registers[i].state = .free → pairFree →
      exec row s = .next (afterAnswer p .bindRegister .ok []
        { s with store := { s.store with
            registers := s.store.registers.set i
              { r with check := registerCheck i s.store.quantities[q].scale r } } }))
    ∧ (s.store.quantities[q].defined = true →
        (s.store.registers[i].state ≠ .free ∨ ¬ pairFree) →
        exec row s = .next (afterAnswer p .bindRegister .conflict [] s))
    ∧ (s.store.quantities[q].defined = false →
        exec row s = .next (afterAnswer p .bindRegister .badArgument [] s))

/-- UNBIND REGISTER empties the slot, CLEAR REGISTER zeroes it and makes it LIVE, ACCEPT REGISTER makes a
SUSPECT register LIVE with its fields as held, SET REGISTER OPTIONS verifies a register and writes its
policy and flags; each is refused with CONFLICT where its rule says so. The empty data of a refusal is the
model's reading (log 9). -/
def Obligations.RegisterEditsWriteTheirSlot : Prop :=
  ∀ (p : PortId) (i : RegSlot) (pol : Policy) (arch reset : Bool) (s : State), Edits p s →
    let r := s.store.registers[i]
    let put (r : RegisterRec) : State :=
      { s with store := { s.store with
          registers := s.store.registers.set i
            { r with check := registerCheck i (scaleOf s r.quantity) r } } }
    let stands : Prop := s.store.quantities[r.quantity].defined = true ∧ r.selector.toNat ≤ 4
      ∧ 6 ≤ r.digits.toNat ∧ r.digits.toNat ≤ 12
      ∧ ∀ j : RegSlot, j ≠ i → s.store.registers[j].state ≠ .free →
          s.store.registers[j].quantity ≠ r.quantity ∨ s.store.registers[j].selector ≠ r.selector
    let unbind := Instr.unbindRegister p [byte i.val]
    let clear := Instr.clearRegister p [byte i.val]
    let accept := Instr.acceptRegister p [byte i.val]
    let options := Instr.setRegisterOptions p
      [byte i.val, byte (policyNat pol), boolCode arch, boolCode reset]
    (r.state ≠ .free → exec unbind s = .next (afterAnswer p .unbindRegister .ok []
      { s with store := { s.store with registers := s.store.registers.set i freeRegister } }))
    ∧ (r.state = .free → exec unbind s = .next (afterAnswer p .unbindRegister .conflict [] s))
    ∧ (r.state = .live ∨ r.state = .overflowed ∨ (r.state = .suspect ∧ stands) →
        exec clear s = .next (afterAnswer p .clearRegister .ok []
          (put { r with state := .live, value := digitsOfNat 12 0, residue := digitsOfNat 3 0,
                        wrapCount := 0 })))
    ∧ (r.state = .free ∨ (r.state = .suspect ∧ ¬ stands) →
        exec clear s = .next (afterAnswer p .clearRegister .conflict [] s))
    ∧ (r.state = .suspect → stands →
        exec accept s = .next (afterAnswer p .acceptRegister .ok [] (put { r with state := .live })))
    ∧ (r.state ≠ .suspect ∨ ¬ stands →
        exec accept s = .next (afterAnswer p .acceptRegister .conflict [] s))
    ∧ (r.state = .suspect ∨ (r.state ≠ .free ∧ checkMatches s i r = true) →
        exec options s = .next (afterAnswer p .setRegisterOptions .ok []
          (put { r with policy := pol, archive := arch, periodReset := reset })))
    ∧ (r.state = .live ∨ r.state = .overflowed → checkMatches s i r = false →
        exec options s = .next (afterAnswer p .setRegisterOptions .ok []
          (raise (suspectNotice i r .edit)
            (put { markedSuspect r with policy := pol, archive := arch, periodReset := reset }))))
    ∧ (r.state = .free →
        exec options s = .next (afterAnswer p .setRegisterOptions .conflict [] s))

/-- What an application makes of a LIVE register, whose total is below its capacity. WRAP: the total modulo
the capacity, the whole wraps added to the wrap count, saturating at 15. STOP: the sum while it stays below
the capacity, and from the capacity on all nines and OVERFLOWED. Every other field is kept. A cell that holds
no decimal digit counts as a digit that is a free value (log 33). -/
def Obligations.WrapAndStopArithmetic : Prop :=
  ∀ (k a : Nat) (r : RegisterRec), k ≤ 3 → r.digits.toNat ≤ 12 → r.state = .live →
    let total := registerTotal k r + a
    let r' := applyAmount k a r
    r' = { r with value := r'.value, residue := r'.residue, wrapCount := r'.wrapCount,
                  state := r'.state }
    ∧ registerTotal k r < capacity k r
    ∧ (r.policy = .wrap →
        registerTotal k r' = total % capacity k r ∧ r'.state = .live
        ∧ r'.wrapCount.toNat = min 15 (r.wrapCount.toNat + total / capacity k r))
    ∧ (r.policy = .stop → total < capacity k r →
        registerTotal k r' = total ∧ r'.state = .live ∧ r'.wrapCount = r.wrapCount)
    ∧ (r.policy = .stop → capacity k r ≤ total →
        registerTotal k r' = capacity k r - 1 ∧ r'.state = .overflowed
        ∧ r'.wrapCount = r.wrapCount)

/-! ### The increment path -/

/-- A POST INCREMENT that passes its checks waits at the arbiter and places nothing yet; one whose quantity
is undefined or whose amount is out of range is refused with BAD_ARGUMENT, and one whose quantity is not in
the post mask with NO_RIGHT. The empty data of a refusal is the model's reading (log 9). -/
def Obligations.PostIncrementWaitsAtTheArbiter : Prop :=
  ∀ (p : PortId) (q : Quantity) (a : Nat) (tag : Byte) (s : State), Takes p s →
    s.store.mode = .run → a ≤ 99999999 →
    let args := byte q.val :: packedDecimal 4 a ++ [tag]
    let row := Instr.postIncrement p args
    let refused (st : Status) : State := onPort p (fun x =>
      { framed x with
        lastResult := some ⟨0x10, tag, st, s.store.applicationCounter⟩
        wire := .response ⟨some .postIncrement, st, []⟩ }) s
    (s.store.quantities[q].defined = true → 1 ≤ a →
      s.store.rights[p].postMask.getLsbD q.val = true →
      exec row s = .next (onPort p (fun x =>
        { framed x with
          execution := some ⟨⟨.postIncrement, args⟩, true⟩
          wire := .waitBytes }) s))
    ∧ (s.store.quantities[q].defined = false ∨ a = 0 →
      exec row s = .next (refused .badArgument))
    ∧ (s.store.quantities[q].defined = true → 1 ≤ a →
      s.store.rights[p].postMask.getLsbD q.val = false → exec row s = .next (refused .noRight))

/-- The arbiter's grant of a port's POST: WRONG_MODE where the mode is no longer RUN, QUEUE_FULL with the
fill from 28 on, else the entry placed at the tail with the active tariff and OK with the new fill. The
command waiting behind the POST then enters execution. The entry's source field is the model's own (log 24),
and the empty data of WRONG_MODE its reading (log 9). -/
def Obligations.PortGrantPlacesOrRefuses : Prop :=
  ∀ (p : PortId) (q : Quantity) (a : Nat) (tag : Byte) (opened : Bool) (s : State),
    1 ≤ a → a ≤ 99999999 → nextGrant s = some (.port p) →
    s.ports[p].execution
      = some ⟨⟨.postIncrement, byte q.val :: packedDecimal 4 a ++ [tag]⟩, opened⟩ →
    let done (st : Status) (data : List Byte) (queue : List Increment) : State :=
      onPort p (fun x =>
        { x with
          execution := none
          lastResult := some ⟨0x10, tag, st, s.store.applicationCounter⟩
          wire := if opened then .response ⟨some .postIncrement, st, data⟩ else x.wire })
        { s with queue := queue, arbiterPointer := .port p }
    (s.store.mode ≠ .run →
      exec .portGrant s = .next (takeWaiting (done .wrongMode [] s.queue) p))
    ∧ (s.store.mode = .run → 28 ≤ s.queue.length →
      exec .portGrant s = .next (takeWaiting (done .queueFull [byte s.queue.length] s.queue) p))
    ∧ (s.store.mode = .run → s.queue.length ≤ 27 →
      exec .portGrant s = .next (takeWaiting
        (done .ok [byte (s.queue.length + 1)]
          (s.queue ++ [⟨q, a, s.store.activeTariff, .port p⟩])) p))

/-- One conversion, of the first eligible input in the cyclic order 0 to 7 after the pointer: at most 9999 pulses
taken, the amount the whole part of their weight with the remainder, placed if it is 1 or more; the mark
cleared, the served mark set in ENTERING_SETUP. An input is eligible if it is enabled, has its threshold or its
mark, and has not been served in ENTERING_SETUP. That the mark is cleared above 9999 too is the model's choice
(log 36), and the entry's source field its own (log 24). -/
def Obligations.ConversionTakesPulses : Prop :=
  ∀ (n : InputId) (s : State), nextGrant s = some .converter →
    let isEligible (m : InputId) : Prop := s.store.pulseDefs[m].enabled = true
      ∧ (s.store.pulseDefs[m].threshold ≤ s.store.pulseCounts[m].pending
        ∨ s.inputs[m].eligible = true)
      ∧ ¬(s.store.mode = .enteringSetup ∧ s.inputs[m].served = true)
    let turn (m : InputId) : Nat := (m.val + 7 - s.converterPointer.val) % 8
    isEligible n → (∀ m : InputId, isEligible m → turn n ≤ turn m) →
    let d := s.store.pulseDefs[n]
    let c := s.store.pulseCounts[n]
    let taken := min c.pending 9999
    let product := taken * d.mantissa + c.remainder
    let amount := product / 10 ^ d.fraction
    exec .conversion s = .next { s with
      store := { s.store with
        pulseCounts := s.store.pulseCounts.set n
          { c with pending := c.pending - taken, remainder := product % 10 ^ d.fraction } }
      queue := s.queue ++
        (if 1 ≤ amount then [⟨d.quantity, amount, s.store.activeTariff, .converter⟩] else [])
      inputs := s.inputs.set n { s.inputs[n] with
        eligible := false
        served := s.inputs[n].served || s.store.mode == .enteringSetup }
      converterPointer := n
      arbiterPointer := .converter }

/-- The arbiter grants a requester that waits, and no requester that stands earlier in the cyclic order
P0, P1, P2, converter after the one granted last waits. A port waits with a POST INCREMENT in execution, the
converter while it runs with an eligible input and a free entry: an enabled one with its threshold or its mark,
not served in ENTERING_SETUP. -/
def Obligations.ArbiterGrantsInCyclicOrder : Prop :=
  ∀ (s : State),
    let order : List Requester := match s.arbiterPointer with
      | .converter => [.port 0, .port 1, .port 2, .converter]
      | .port 0 => [.port 1, .port 2, .converter, .port 0]
      | .port 1 => [.port 2, .converter, .port 0, .port 1]
      | .port 2 => [.converter, .port 0, .port 1, .port 2]
    (∀ p : PortId, requesterWaits s (.port p) = true
      ↔ ∃ ex, s.ports[p].execution = some ex ∧ ex.command.kind = .postIncrement)
    ∧ (requesterWaits s .converter = true
      ↔ s.supply = .runSupply
        ∧ (s.store.mode = .run ∨ (s.store.mode = .enteringSetup ∧ s.closeState = .idle))
        ∧ (∃ n : InputId, s.store.pulseDefs[n].enabled = true
          ∧ (s.store.pulseDefs[n].threshold ≤ s.store.pulseCounts[n].pending
            ∨ s.inputs[n].eligible = true)
          ∧ ¬(s.store.mode = .enteringSetup ∧ s.inputs[n].served = true))
        ∧ s.queue.length < 32)
    ∧ (nextGrant s = none ↔ ∀ r : Requester, requesterWaits s r = false)
    ∧ ∀ r : Requester, nextGrant s = some r →
        requesterWaits s r = true
        ∧ ∃ before after : List Requester, order = before ++ r :: after
            ∧ ∀ x ∈ before, requesterWaits s x = false

/-- A service point that chooses the queue removes its head and takes the head's targets as they stand after
their check words are verified. The targets are, for the tariff stamped and for ALL, the register bound to
the quantity and that selector: the lowest that is not SUSPECT, or the lowest where all are. A target that
verifies, and every register that is no target, does not change; a target that does not verify is SUSPECT,
and its SUSPECT notice (found at APPLY) is raised. That the lower slot is verified first is the model's
choice (log 34). -/
def Obligations.ApplicationStartTakesTheHead : Prop :=
  ∀ (e : Increment) (rest : List Increment) (s : State), s.queue = e :: rest →
    atServicePoint s = true → s.closeState ≠ .requested → s.captureQueue = [] →
    let bound (sel : BitVec 3) (i : RegSlot) : Prop := s.store.registers[i].state ≠ .free
      ∧ s.store.registers[i].quantity = e.quantity ∧ s.store.registers[i].selector = sel
    let chosen (sel : BitVec 3) (i : RegSlot) : Prop := bound sel i
      ∧ ((s.store.registers[i].state ≠ .suspect
          ∧ ∀ j < i, bound sel j → s.store.registers[j].state = .suspect)
        ∨ ((∀ j, bound sel j → s.store.registers[j].state = .suspect) ∧ ∀ j < i, ¬ bound sel j))
    ∃ (t : State) (slots : List RegSlot), exec .applicationStart s = .next t
    ∧ (∀ i : RegSlot, i ∈ slots ↔ chosen (tariffSelector e.stamp) i ∨ chosen 4 i)
    ∧ slots.Pairwise (· < ·)
    ∧ t.queue = rest
    ∧ t.engine = .applying e (slots.map fun i => ⟨i, t.store.registers[i]⟩)
    ∧ (∀ i : RegSlot, (i ∉ slots ∨ checkMatches s i s.store.registers[i] = true) →
        t.store.registers[i] = s.store.registers[i])
    ∧ (∀ i ∈ slots, checkMatches s i s.store.registers[i] = false →
        t.store.registers[i].state = .suspect)
    ∧ (∀ p : PortId, t.ports[p] = told s (suspectNotices .apply s slots) p)
    ∧ ((∀ i ∈ slots, checkMatches s i s.store.registers[i] = true) → t.ports = s.ports)
    ∧ t = { s with
        queue := t.queue, engine := t.engine, ports := t.ports
        store := { s.store with registers := t.store.registers } }

/-- A completion commits its targets, raises the counter by one, hands the amount to the channel that
tracks the quantity, and leaves the engine READY. A target that was LIVE and has not become SUSPECT
takes the amount; every other register is unchanged. An OVERFLOW notice is raised for each target that
reaches its capacity, in the order of the targets, which is lower slot first (ApplicationStartTakesTheHead). -/
def Obligations.ApplicationCompletionCommits : Prop :=
  ∀ (e : Increment) (targets : List Target) (s : State), s.engine = .applying e targets →
    (targets.map (·.slot)).Nodup →
    let takes (x : Target) : Bool :=
      x.record.state == .live && s.store.registers[x.slot].state != .suspect
    ∃ t : State, exec .applicationCompletion s = .next t
    ∧ t.engine = .ready
    ∧ t.store.applicationCounter = s.store.applicationCounter + 1
    ∧ (∀ c : ChannelId, t.accumulators[c] =
        if s.store.channels[c].quantity = some e.quantity then
          min (s.accumulators[c] + e.amount) 9999999999
        else s.accumulators[c])
    ∧ (∀ x ∈ targets, t.store.registers[x.slot] =
        if x.record.state = .live ∧ s.store.registers[x.slot].state ≠ .suspect then
          let k := scaleOf s x.record.quantity
          let r := applyAmount k e.amount x.record
          { r with check := registerCheck x.slot (scaleOf s r.quantity) r }
        else s.store.registers[x.slot])
    ∧ (∀ i : RegSlot, i ∉ targets.map (·.slot) → t.store.registers[i] = s.store.registers[i])
    ∧ (∀ p : PortId, t.ports[p] = told s
        ((targets.filter fun x => takes x && decide
            (capacity (scaleOf s x.record.quantity) x.record
              ≤ registerTotal (scaleOf s x.record.quantity) x.record + e.amount)).map
          fun x => ⟨.overflow, byte x.slot.val, byte x.record.quantity.val,
            byte x.record.selector.toNat, if x.record.policy = .wrap then 0 else 1,
            byte t.store.registers[x.slot].wrapCount.toNat⟩) p)
    ∧ t = { s with
        engine := t.engine, accumulators := t.accumulators, ports := t.ports
        store := { s.store with
          registers := t.store.registers, applicationCounter := t.store.applicationCounter } }
    ∧ ((∀ x ∈ targets, overflowOf s e.amount x = none) → t.ports = s.ports)

/-! ### Pulse inputs -/

/-- The judgement at the third verification sample: three active samples count a clean pulse, two a noisy
one, fewer are rejected; a pulse counted at 65535 is lost and sets the saturation flag, whose change raises
the PULSE notice. That this row is the sample tick at one input, taken ahead of the rest of that tick, is the
model's choice (log 4), and so is the noise count in the notice (log 22). -/
def Obligations.PulseJudgementCountsOrRejects : Prop :=
  ∀ (n : InputId) (high : Bool) (s : State), sampleFalls s = true →
    TickPart.input n ∉ s.prescaler.early → s.store.pulseDefs[n].enabled = true →
    judgementDue s.store.pulseDefs[n] s.inputs[n] = true → s.inputs[n].samplesActive ≤ 2 →
    let c := s.store.pulseCounts[n]
    let active := high == s.store.pulseDefs[n].activeHigh
    let total := s.inputs[n].samplesActive + active.toNat
    ∃ t : State, exec (.pulseJudgement n high) s = .next t
    ∧ t.inputs[n].frontEnd = (if 2 ≤ total then .latched else .armed)
    ∧ t.inputs[n].lastActive = active
    ∧ (∀ m : InputId, m ≠ n →
        t.inputs[m] = s.inputs[m] ∧ t.store.pulseCounts[m] = s.store.pulseCounts[m])
    ∧ (total < 2 → t.store.pulseCounts[n] = { c with reject := min (c.reject + 1) 255 })
    ∧ (2 ≤ total →
        t.store.pulseCounts[n] =
          { c with
            noise := if total = 2 then min (c.noise + 1) 255 else c.noise
            pending := if c.pending < 65535 then c.pending + 1 else c.pending
            saturated := c.saturated || decide (65535 ≤ c.pending) })
    ∧ (c.pending < 65535 ∨ c.saturated = true → t.ports = s.ports)
    ∧ (∀ p : PortId, t.ports[p] = told s
        (if 2 ≤ total ∧ 65535 ≤ c.pending ∧ c.saturated = false then
          [⟨.pulse, byte n.val, byte s.store.pulseDefs[n].quantity.val,
            byte t.store.pulseCounts[n].noise, byte c.reject, 0⟩]
        else []) p)
    ∧ t.prescaler = { s.prescaler with early := .input n :: s.prescaler.early }
    ∧ t = { s with
        inputs := t.inputs, ports := t.ports, prescaler := t.prescaler
        store := { s.store with pulseCounts := t.store.pulseCounts } }

/-- The inactive sample that brings the rearm count to the rearm time puts the input in ARMED with its last
level inactive, and changes nothing else but the input's share of the tick to come. That this row is the
sample tick at one input, taken ahead of the rest of that tick, is the model's choice (log 4), and so is the
rearm count of 0 that it leaves on an ARMED input (log 23). -/
def Obligations.RearmCompleteArms : Prop :=
  ∀ (n : InputId) (s : State), sampleFalls s = true → TickPart.input n ∉ s.prescaler.early →
    rearmDue s.store.pulseDefs[n] s.inputs[n] = true →
    exec (.rearmComplete n) s = .next { s with
      inputs := s.inputs.set n
        { s.inputs[n] with frontEnd := .armed, lastActive := false, rearmCount := 0 }
      prescaler := { s.prescaler with early := .input n :: s.prescaler.early } }

/-- A sample tick, where one falls, samples every enabled input and no other, in every mode and supply state
with power. ARMED: an active level after an inactive one starts VERIFYING. VERIFYING: the samples at one and
two spacings are counted, others only update the last level, and the one at three spacings is the judgement.
LATCHED: the first inactive sample starts REARMING, or ARMED with a rearm time of 1. REARMING: an active sample
returns to LATCHED, and the rearm time of inactive ones to ARMED. An input whose pulse is lost at 65535 raises its
PULSE notice as its flag is set. CLOSEIN is recognized by three successive samples that agree; a fall sets the
latch, which takes a LINE close, is cleared or waits, and a rise clears it in LEVEL mode. Nothing else changes.
How the prescaler's phase moves, that a part of the tick may have been taken ahead, that the lower input's
notice is first and holds the noise count of its own pulse, and a rearm count of 0 out of REARMING, are the
model's choices (logs 5, 4, 35, 22 and 23). -/
def Obligations.SampleTickSamplesEveryInput : Prop :=
  ∀ (pls : BitVec 8) (closein : Bool) (s : State),
    (sampleFalls s = false → exec (.sampleTick pls closein) s = .next s)
    ∧ (sampleFalls s = true →
    ∃ t : State, exec (.sampleTick pls closein) s = .next t
    ∧ t.prescaler = ⟨s.prescaler.samples + 1, s.prescaler.seconds,
        s.prescaler.early.filter fun x => !ofSample x⟩
    ∧ (∀ n : InputId,
        (s.store.pulseDefs[n].enabled = false ∨ TickPart.input n ∈ s.prescaler.early) →
        t.inputs[n] = s.inputs[n] ∧ t.store.pulseCounts[n] = s.store.pulseCounts[n])
    ∧ (∀ n : InputId, s.store.pulseDefs[n].enabled = true →
        TickPart.input n ∉ s.prescaler.early →
        let d := s.store.pulseDefs[n]
        let i := s.inputs[n]
        let active := pls.getLsbD n.val == d.activeHigh
        let rearmed (count : Nat) : InputRun :=
          if d.rearmTime ≤ count then
            { i with frontEnd := .armed, lastActive := false, rearmCount := 0 }
          else { i with frontEnd := .rearming, lastActive := false, rearmCount := count }
        (judgementDue d i = true → ∃ u : State,
          exec (.pulseJudgement n (pls.getLsbD n.val)) s = .next u
          ∧ t.inputs[n] = u.inputs[n] ∧ t.store.pulseCounts[n] = u.store.pulseCounts[n])
        ∧ (judgementDue d i = false → t.store.pulseCounts[n] = s.store.pulseCounts[n]
          ∧ t.inputs[n] = (match i.frontEnd with
            | .disabled => i
            | .armed =>
              if active = true ∧ i.lastActive = false then
                { i with frontEnd := .verifying, lastActive := true, samplesTaken := 0,
                         samplesActive := 0, elapsed := 0 }
              else { i with lastActive := active }
            | .verifying =>
              if i.elapsed + 1 = d.spacing * (i.samplesTaken + 1) then
                { i with lastActive := active, elapsed := i.elapsed + 1,
                         samplesTaken := i.samplesTaken + 1,
                         samplesActive := i.samplesActive + if active then 1 else 0 }
              else { i with lastActive := active, elapsed := i.elapsed + 1 }
            | .latched => if active then { i with lastActive := true } else rearmed 1
            | .rearming =>
              if active then { i with frontEnd := .latched, lastActive := true, rearmCount := 0 }
              else rearmed (i.rearmCount + 1))))
    ∧ (let r := s.recognizer
       let level : LineLevel := if closein then .high else .low
       let run := if 0 < r.runCount ∧ r.runHigh = closein then r.runCount + 1 else 1
       let isSampled : Prop := s.store.closeOptions.lineMode ≠ .off ∧ s.store.mode ≠ .setup
         ∧ s.supply = .runSupply ∧ TickPart.closein ∉ s.prescaler.early
       (¬ isSampled → t.recognizer = r)
       ∧ (isSampled → r.level = level → t.recognizer = { r with runCount := 0 })
       ∧ (isSampled → r.level ≠ level → run < 3 →
          t.recognizer = { r with runHigh := closein, runCount := run })
       ∧ (isSampled → r.level ≠ level → 3 ≤ run → t.recognizer = ⟨level, closein, 0⟩)
       ∧ (let m := s.store.closeOptions.lineMode
          let falls : Prop := isSampled ∧ r.level = .high ∧ closein = false ∧ 3 ≤ run
          let rises : Prop := isSampled ∧ r.level = .low ∧ closein = true ∧ 3 ≤ run
          let free : Prop := s.closeState = .idle ∧ s.store.mode = .run
          let u : State := { s with
            inputs := t.inputs, ports := t.ports, prescaler := t.prescaler
            recognizer := t.recognizer
            store := { s.store with pulseCounts := t.store.pulseCounts } }
          (falls → free → inhibitActive s = false →
            t = takeClose .line none { u with latch := true })
          ∧ (falls → free → inhibitActive s = true → m = .edge → t = { u with latch := false })
          ∧ (falls → (¬ free ∨ (inhibitActive s = true ∧ m = .level)) →
            t = { u with latch := true })
          ∧ (rises → t = { u with latch := if m = .level then false else s.latch })
          ∧ (¬ falls → ¬ rises → t = u)))
    ∧ (∀ p : PortId, t.ports[p] = told s ((List.finRange 8).filterMap fun n : InputId =>
        let d := s.store.pulseDefs[n]
        let c := s.store.pulseCounts[n]
        let total := s.inputs[n].samplesActive + (pls.getLsbD n.val == d.activeHigh).toNat
        if d.enabled = true ∧ s.prescaler.early.contains (.input n) = false
            ∧ judgementDue d s.inputs[n] = true ∧ 2 ≤ total ∧ 65535 ≤ c.pending
            ∧ c.saturated = false then
          some ⟨.pulse, byte n.val, byte d.quantity.val, byte t.store.pulseCounts[n].noise,
            byte c.reject, 0⟩
        else none) p))

/-- DEFINE PULSE INPUT writes the definition its arguments give, discards the counts where the flag says so and
answers them, and restarts the input; counts that are not discarded are a CONFLICT; an argument out of its
range, or a quantity that is undefined for an enabled input, is refused with BAD_ARGUMENT. READ PULSE INPUT
reports the input as it stood, and clears its two counts and its flag where asked. The empty data of a refusal
is the model's reading (log 9), and so is the refusal of a mantissa with a half byte that holds no decimal
digit (log 10). -/
def Obligations.PulseInputDefinedAndRead : Prop :=
  ∀ (p : PortId) (n : InputId) (s : State),
    let c := s.store.pulseCounts[n]
    (∀ (d : PulseDef) (discard : Bool), Edits p s →
      1 ≤ d.spacing → d.spacing ≤ 8 → 1 ≤ d.rearmTime → d.rearmTime ≤ 255 →
      1 ≤ d.mantissa → d.mantissa ≤ 9999 → d.fraction ≤ 3 → 1 ≤ d.threshold → d.threshold ≤ 255 →
      let defines : Prop := d.enabled = true → s.store.quantities[d.quantity].defined = true
      let row := Instr.definePulseInput p
        ([byte n.val, boolCode d.enabled, boolCode d.activeHigh, boolCode d.pullUp,
          byte d.spacing, byte d.rearmTime, byte d.quantity.val] ++ packedDecimal 2 d.mantissa
          ++ [byte d.fraction, byte d.threshold, boolCode discard])
      (¬ defines → exec row s = .next (afterAnswer p .definePulseInput .badArgument [] s))
      ∧ (defines → discard = true ∨ (c.pending = 0 ∧ c.remainder = 0) →
        exec row s = .next (afterAnswer p .definePulseInput .ok
          (bigEndian 2 c.pending ++ packedDecimal 2 c.remainder)
          { s with
            store := writeSignature { s.store with
              pulseDefs := s.store.pulseDefs.set n d
              pulseCounts := s.store.pulseCounts.set n ⟨0, 0, 0, 0, false⟩ }
            inputs := s.inputs.set n { s.inputs[n] with
              frontEnd := if d.enabled then .armed else .disabled
              lastActive := d.enabled, samplesTaken := 0, samplesActive := 0, elapsed := 0
              rearmCount := 0, eligible := false } }))
      ∧ (defines → discard = false → (c.pending ≠ 0 ∨ c.remainder ≠ 0) →
        exec row s = .next (afterAnswer p .definePulseInput .conflict [] s)))
    ∧ (∀ args : List Byte, Edits p s → args.length = 12 →
      let num (i : Nat) : Nat := (arg args i).toNat
      let notDecimal (i : Nat) : Prop := 9 < num i / 16 ∨ 9 < num i % 16
      (7 < num 0 ∨ 1 < num 1 ∨ 1 < num 2 ∨ 1 < num 3 ∨ num 4 = 0 ∨ 8 < num 4 ∨ num 5 = 0
        ∨ 7 < num 6 ∨ notDecimal 7 ∨ notDecimal 8 ∨ (num 7 = 0 ∧ num 8 = 0) ∨ 3 < num 9
        ∨ num 10 = 0 ∨ 1 < num 11) →
      exec (.definePulseInput p args) s
        = .next (afterAnswer p .definePulseInput .badArgument [] s))
    ∧ ∀ clear : Bool, Takes p s →
        exec (.readPulseInput p [byte n.val, boolCode clear]) s
          = .next (afterAnswer p .readPulseInput .ok
              (pulseReport n s.store.pulseDefs[n] c s.inputs[n])
              { s with store := { s.store with
                  pulseCounts := if clear then
                    s.store.pulseCounts.set n { c with noise := 0, reject := 0, saturated := false }
                  else s.store.pulseCounts } })

/-! ### Tariffs -/

/-- SET TARIFF naming another tariff makes the change: the tariff, the partial end of the demand interval,
the TARIFF notice. Naming the active tariff it changes nothing. In LINES mode it is refused with WRONG_MODE,
and without the TARIFF right with NO_RIGHT. The empty data of a refusal is the model's reading (log 9). -/
def Obligations.SetTariffChangesTheTariff : Prop :=
  ∀ (p : PortId) (t : Tariff) (s : State), Takes p s → s.store.mode ≠ .setup →
    let old := s.store.activeTariff
    let row := Instr.setTariff p [tariffCode t]
    (s.store.sourceMode = .command → s.store.rights[p].tariff = true → t ≠ old →
      exec row s = .next (afterAnswer p .setTariff .ok [tariffCode old, tariffCode t]
        (raise ⟨.tariff, tariffCode t, tariffCode old, 0, byte p.val, 0⟩
          { s with
            store := { s.store with
              activeTariff := t
              intervalIndex := min (s.store.intervalIndex + 1) 65535
              chains := { s.store.chains with demand := loaded s.store.chains.demand } }
            accumulators := Vector.replicate 4 0
            intervalPartial := true })))
    ∧ (s.store.sourceMode = .command → s.store.rights[p].tariff = true → t = old →
      exec row s = .next (afterAnswer p .setTariff .ok [tariffCode old, tariffCode t] s))
    ∧ (s.store.sourceMode = .lines →
      exec row s = .next (afterAnswer p .setTariff .wrongMode [] s))
    ∧ (s.store.sourceMode = .command → s.store.rights[p].tariff = false →
      exec row s = .next (afterAnswer p .setTariff .noRight [] s))

/-- The TSEL lines at a second tick: sampled in LINES mode, outside SETUP, in RUN-SUPPLY; a sample that
agrees with the one before and differs from the active tariff makes a change with source LINES: the tariff, the
partial end of the demand interval, the TARIFF notice with no port; the history then holds the sample. -/
def Obligations.LinesNeedTwoAgreeingSamples : Prop :=
  ∀ (hi lo : Bool) (s : State),
    let v : Tariff := if hi then (if lo then .t4 else .t3) else (if lo then .t2 else .t1)
    let isSampled : Prop := s.store.sourceMode = .lines
      ∧ (s.store.mode = .run ∨ s.store.mode = .enteringSetup) ∧ s.supply = .runSupply
    (¬ isSampled → secondAt hi lo s .lines = s)
    ∧ (isSampled → (s.lineHistory ≠ some v ∨ v = s.store.activeTariff) →
        secondAt hi lo s .lines = { s with lineHistory := some v })
    ∧ (isSampled → s.lineHistory = some v → v ≠ s.store.activeTariff →
        secondAt hi lo s .lines
          = { raise ⟨.tariff, tariffCode v, tariffCode s.store.activeTariff, 1, 0xFF, 0⟩
                { s with
                  store := { s.store with
                    activeTariff := v
                    intervalIndex := min (s.store.intervalIndex + 1) 65535
                    chains := { s.store.chains with demand := loaded s.store.chains.demand } }
                  accumulators := Vector.replicate 4 0
                  intervalPartial := true } with
              lineHistory := some v })

/-- A second tick and a minute tick act where they fall and nowhere else, and reach each of their takers once.
A second tick lowers every HELD slot's remaining lease by one and frees a slot that reaches 0 with a LEASE
notice to its holder, marks the enabled inputs with a non-zero pending count while the converter runs, counts
the retain duration in RETAIN, and touches no register, queue entry or log record. A minute tick raises the
period duration, saturating at 65535, and touches none of these either. A RUNNING chain's count falls by one
at its own tick and no other, and from 1 it expires as its event row says. How the prescaler's phase moves, that a part of a tick may have been taken
ahead, and that an operand orders the takers, are the model's choices (logs 4, 5 and 6). -/
def Obligations.SecondAndMinuteTicksCount : Prop :=
  ∀ (s : State),
    let untaken (x : TickPart) : Prop := x ∉ s.prescaler.early
    (secondFalls s = false →
      ∀ (hi lo : Bool) (first : List TickTaker), exec (.secondTick hi lo first) s = .next s)
    ∧ (minuteFalls s = false → ∀ first : List TickTaker, exec (.minuteTick first) s = .next s)
    ∧ (secondFalls s = true → ∀ (hi lo : Bool) (first : List TickTaker), ∃ t : State,
      exec (.secondTick hi lo first) s = .next t
      ∧ t.prescaler = ⟨s.prescaler.samples - 1024, s.prescaler.seconds + 1,
          s.prescaler.early.filter fun x => !ofTick .second x⟩
      ∧ t = { (takerOrder first secondTakers).foldl (secondAt hi lo) s with
          prescaler := t.prescaler }
      ∧ (∀ x ∈ secondTakers, (takerOrder first secondTakers).count x = 1)
      ∧ (∀ i : SnapId,
          (untaken (.lease i) → t.slots[i] =
            match s.slots[i] with
            | .held o remaining entries stamp =>
              if remaining ≤ 1 then .free else .held o (remaining - 1) entries stamp
            | .pending o => .pending o
            | .free => .free)
          ∧ (¬ untaken (.lease i) → t.slots[i] = s.slots[i]))
      ∧ (∀ n : InputId, t.inputs[n] = { s.inputs[n] with
          eligible := s.inputs[n].eligible || decide (
            s.supply = .runSupply
            ∧ (s.store.mode = .run ∨ (s.store.mode = .enteringSetup ∧ s.closeState = .idle))
            ∧ s.store.pulseDefs[n].enabled = true ∧ s.store.pulseCounts[n].pending ≠ 0) })
      ∧ t.retainDuration =
          (if s.supply = .retain then min (s.retainDuration + 1) 4294967295 else s.retainDuration)
      ∧ (t.store.registers = s.store.registers ∧ t.queue = s.queue ∧ t.store.log = s.store.log
          ∧ t.store.periodDuration = s.store.periodDuration
          ∧ t.store.applicationCounter = s.store.applicationCounter))
    ∧ (minuteFalls s = true → ∀ first : List TickTaker, ∃ t : State,
      exec (.minuteTick first) s = .next t
      ∧ t.prescaler = ⟨s.prescaler.samples, s.prescaler.seconds - 60,
          s.prescaler.early.filter fun x => !ofTick .minute x⟩
      ∧ t = { (takerOrder first minuteTakers).foldl minuteAt s with prescaler := t.prescaler }
      ∧ (∀ x ∈ minuteTakers, (takerOrder first minuteTakers).count x = 1)
      ∧ t.store.periodDuration = min (s.store.periodDuration + 1) 65535
      ∧ (t.store.registers = s.store.registers ∧ t.queue = s.queue ∧ t.store.log = s.store.log
          ∧ t.slots = s.slots ∧ t.inputs = s.inputs ∧ t.retainDuration = s.retainDuration
          ∧ t.store.applicationCounter = s.store.applicationCounter))
    ∧ (∀ (hi lo : Bool) (p : PortId), (secondAt hi lo s .leases).ports[p] = told s
        (([0, 1, 2, 3] : List SnapId).filterMap fun i => match s.slots[i] with
          | .held o remaining _ stamp =>
            if remaining ≤ 1 ∧ o.holder = p ∧ s.prescaler.early.contains (.lease i) = false then
              some ⟨.lease, byte i.val, byte o.lease, byte (stamp.counter.toNat / 256),
                byte stamp.counter.toNat, 0⟩
            else none
          | .pending _ | .free => none) p)
    ∧ ∀ (hi lo : Bool) (u : ChainTick) (f : ChainFn),
        let c := chainOf s.store.chains f
        let after : State := match u with
          | .second => secondAt hi lo s (.chain f)
          | .minute => minuteAt s (.chain f)
        (c.state ≠ .running ∨ c.tick ≠ u ∨ ¬ untaken (.chain u f) → after = s)
        ∧ (c.state = .running → c.tick = u → untaken (.chain u f) → 2 ≤ c.count →
          after = { s with store := { s.store with
            chains := withChain s.store.chains f { c with count := c.count - 1 } } })
        ∧ (c.state = .running → c.tick = u → untaken (.chain u f) → c.count = 1 →
          chainTickFalls u s = true → ∃ v : State,
            exec (match f with
              | .demand => .demandExpiry
              | .overdue => .overdueExpiry
              | .inhibit => .inhibitExpiry) s = .next v
            ∧ after = { v with prescaler := s.prescaler })

/-! ### Maximum demand -/

/-- A DEMAND expiry reloads the chain, keeps for each tracked channel the greater of its accumulator and the
active tariff's maximum with the interval's index and raises a PEAK notice for it, in channel order, clears
the accumulators, raises the index and clears the marker. Out of RUN-SUPPLY, where the chain is held, it
would not reach the demand unit. That this row is the tick at one chain, taken ahead of the rest of that
tick, is the model's choice (log 4). -/
def Obligations.DemandExpiryEndsTheIntervalInFull : Prop :=
  ∀ (s : State), s.store.chains.demand.state = .running → s.store.chains.demand.count = 1 →
    chainTickFalls s.store.chains.demand.tick s = true →
    TickPart.chain s.store.chains.demand.tick .demand ∉ s.prescaler.early →
    let k := tariffIndex s.store.activeTariff
    let phase : Prescaler := { s.prescaler with
      early := .chain s.store.chains.demand.tick .demand :: s.prescaler.early }
    let reloaded : Chains := { s.store.chains with
      demand := { s.store.chains.demand with count := s.store.chains.demand.reload } }
    let rises (c : ChannelId) : Bool := s.store.channels[c].quantity != none
      && decide (s.store.channels[c].maxima[k].maximum < s.accumulators[c])
    (s.supply = .runSupply → ∃ t : State, exec .demandExpiry s = .next t
    ∧ t.store.chains = reloaded ∧ t.prescaler = phase
    ∧ (∀ c : ChannelId,
        t.store.channels[c] =
          (if rises c = true then
            { s.store.channels[c] with
              maxima := s.store.channels[c].maxima.set k
                ⟨s.accumulators[c], s.store.intervalIndex⟩ }
          else s.store.channels[c])
        ∧ t.accumulators[c] =
          if s.store.channels[c].quantity = none then s.accumulators[c] else 0)
    ∧ t.store.intervalIndex = min (s.store.intervalIndex + 1) 65535
    ∧ t.intervalPartial = false
    ∧ (∀ p : PortId, t.ports[p] = told s
        ((([0, 1, 2, 3] : List ChannelId).filter rises).map fun c =>
          let d := packedDecimal 4 (min s.accumulators[c] 99999999)
          ⟨.peak, byte (c.val * 16 + k.val), arg d 0, arg d 1, arg d 2, arg d 3⟩) p)
    ∧ t = { s with
        accumulators := t.accumulators, intervalPartial := t.intervalPartial, ports := t.ports
        prescaler := t.prescaler
        store := { s.store with
          chains := t.store.chains, channels := t.store.channels
          intervalIndex := t.store.intervalIndex } })
    ∧ (s.supply ≠ .runSupply → exec .demandExpiry s = .next { s with
        prescaler := phase, store := { s.store with chains := reloaded } })

/-! ### Period close and the period log -/

/-- REQUEST CLOSE: taken and ACCEPTED with the period number in RUN and IDLE without an inhibit; CLOSE_BUSY
in ENTERING_SETUP or with a close in flight; TOO_SOON with the inhibit active. The empty data of a refusal
is the model's reading (log 9). -/
def Obligations.RequestCloseTakenOrRefused : Prop :=
  ∀ (p : PortId) (s : State), Takes p s → s.store.mode ≠ .setup → s.store.rights[p].close = true →
    let row := Instr.requestClose p []
    (s.store.mode = .run → s.closeState = .idle → inhibitActive s = false →
      exec row s = .next (afterAnswer p .requestClose .accepted
        (bigEndian 2 s.store.periodNumber.toNat)
        { s with
          store := { s.store with
            overdueHeld := false
            chains := { s.store.chains with demand := held s.store.chains.demand } }
          closeState := .requested
          currentClose := some ⟨.command, some p⟩
          doneOwed := true
          latch := false
          accumulators := Vector.replicate 4 0
          intervalPartial := true }))
    ∧ (s.store.mode = .enteringSetup ∨ s.closeState ≠ .idle →
      exec row s = .next (afterAnswer p .requestClose .closeBusy [] s))
    ∧ (s.store.mode = .run → s.closeState = .idle → inhibitActive s = true →
      exec row s = .next (afterAnswer p .requestClose .tooSoon [] s))

/-- The engine taking a close starts WRITING: archived registers are verified, one that does not match is
SUSPECT and its SUSPECT notice (found at CLOSE) raised, in slot order by the model's choice (log 34); the
record is built, its size is 14 and 9 for each entry, and the fewest records leave the old end of the log that
make it fit beside at most 31 others within 2048 bytes. -/
def Obligations.WritingStartBuildsTheRecord : Prop :=
  ∀ (c : CurrentClose) (s : State), s.currentClose = some c → s.engine = .ready →
    (s.store.mode ≠ .setup ∨ s.supply = .drain) → s.closeState = .requested →
    ∃ (t : State) (b : Building), exec .writingStart s = .next t
    ∧ t.closeState = .writing ∧ t.engine = .closing ∧ t.building = some b
    ∧ b.bytes.length = 14 + 9 * (((List.finRange 32).filter (archived s.store)).length
        + (demandEntries s.store).length)
    ∧ b.bytes = buildRecord t.store c
    ∧ t.store.log.entries = s.store.log.entries.drop b.removed
    ∧ b.removed ≤ s.store.log.entries.length
    ∧ t.store.log.entries.length < 32
    ∧ bytesUsed t.store.log.entries + b.bytes.length ≤ 2048
    ∧ (∀ m < b.removed, ¬ ((s.store.log.entries.drop m).length < 32
        ∧ bytesUsed (s.store.log.entries.drop m) + b.bytes.length ≤ 2048))
    ∧ t.store.log = (if b.removed = 0 then s.store.log else logOf t.store.log.entries)
    ∧ (∀ i : RegSlot, (archived s.store i = false ∨ checkMatches s i s.store.registers[i] = true) →
        t.store.registers[i] = s.store.registers[i])
    ∧ (∀ i : RegSlot, archived s.store i = true → checkMatches s i s.store.registers[i] = false →
        t.store.registers[i].state = .suspect)
    ∧ (∀ p : PortId, t.ports[p] = told s
        (suspectNotices .close s ((List.finRange 32).filter (archived s.store))) p)
    ∧ t = { s with
        closeState := t.closeState, engine := t.engine, building := t.building, ports := t.ports
        store := { s.store with registers := t.store.registers, log := t.store.log } }

/-- The completion of a close: the record joins the log, registers with period reset go to zero, maxima,
interval index and duration go to zero, the number rises, OVERDUE and the enabled INHIBIT are loaded, and the
DEMAND chain in RUN-SUPPLY. The notices are the SUSPECT ones (found at PERIOD RESET), CLOSED, and the DONE
still owed. After a SETUP close the part is in SETUP with the engine HALTED, the three chains held, the claim
and a DONE with a requester that is still owed them, and the requester cleared. After any other the engine is
READY, and a latch takes the next close with cause LINE unless the inhibit stops it, which clears it in EDGE
mode and leaves it in LEVEL mode. Nothing else changes. -/
def Obligations.CloseCompletionStartsThePeriod : Prop :=
  ∀ (c : CurrentClose) (b : Building) (s : State), s.engine = .closing →
    s.currentClose = some c → s.building = some b →
    let closed := s.store.periodNumber
    let zeroes (i : RegSlot) : Bool :=
      s.store.registers[i].state != .free && s.store.registers[i].periodReset
    let inhibit := if s.store.closeOptions.inhibitEnabled then loaded s.store.chains.inhibit
      else s.store.chains.inhibit
    let inhibited : Prop := s.store.closeOptions.inhibitEnabled = true
      ∧ (inhibit.state = .running ∨ inhibit.state = .held)
    let demand := if s.supply = .runSupply then loaded s.store.chains.demand
      else s.store.chains.demand
    let examined : Prop := c.cause ≠ .setup ∧ s.latch = true ∧ s.store.mode = .run
      ∧ s.supply = .runSupply
    let takes : Prop := examined ∧ ¬ inhibited ∧ s.store.closeOptions.lineMode ≠ .off
    ∃ t : State, exec .closeCompletion s = .next t
    ∧ t.store.log = logOf (s.store.log.entries ++ [⟨b.bytes.length, false, b.bytes⟩])
    ∧ t.store.periodNumber = closed + 1
    ∧ t.store.periodDuration = 0 ∧ t.store.intervalIndex = 0 ∧ t.building = none
    ∧ (∀ d : ChannelId, t.store.channels[d].quantity = s.store.channels[d].quantity
        ∧ ∀ k : Fin 4, t.store.channels[d].maxima[k] = ⟨0, 0⟩)
    ∧ (∀ i : RegSlot,
        (zeroes i = false → t.store.registers[i] = s.store.registers[i])
        ∧ (zeroes i = true →
          let r : RegisterRec := { s.store.registers[i] with
            value := digitsOfNat 12 0, residue := digitsOfNat 3 0, wrapCount := 0
            state := if s.store.registers[i].state = .suspect
                ∨ checkMatches s i s.store.registers[i] = false then .suspect else .live }
          t.store.registers[i] = { r with check := registerCheck i (scaleOf s r.quantity) r }))
    ∧ (∀ p : PortId, t.ports[p] = told s
        (suspectNotices .periodReset s ((List.finRange 32).filter zeroes)
          ++ [⟨.closed, byte (causeNat c.cause), byte (closed.toNat / 256), byte closed.toNat,
            optionCode c.requester, byte b.removed⟩]
          ++ (if c.cause = .command ∧ c.requester = some p ∧ s.doneOwed = true then
            [⟨.done, 0x12, 0, byte (closed.toNat / 256), byte closed.toNat, 0⟩] else [])
          ++ (if c.cause = .setup ∧ s.reopen = some ⟨p, true⟩ then
            [⟨.done, 0x40, 0, byte (closed.toNat / 256), byte closed.toNat, 0⟩] else [])) p)
    ∧ (c.cause = .setup → t.store.mode = .setup ∧ t.engine = .halted ∧ t.reopen = none
        ∧ t.store.chains = ⟨held s.store.chains.demand, held (loaded s.store.chains.overdue),
            held inhibit⟩
        ∧ t.claim = (match s.reopen with
            | some ⟨p, true⟩ => if s.supply = .runSupply then some p else s.claim
            | _ => s.claim))
    ∧ (c.cause ≠ .setup → t.store.mode = s.store.mode ∧ t.engine = .ready
        ∧ t.reopen = s.reopen ∧ t.claim = s.claim)
    ∧ (takes → t.closeState = .requested ∧ t.currentClose = some ⟨.line, none⟩
        ∧ t.latch = false ∧ t.store.overdueHeld = false
        ∧ t.accumulators = Vector.replicate 4 0 ∧ t.intervalPartial = true
        ∧ t.store.chains = ⟨held demand, loaded s.store.chains.overdue, inhibit⟩)
    ∧ (¬ takes → t.closeState = .idle ∧ t.currentClose = none
        ∧ t.store.overdueHeld = s.store.overdueHeld ∧ t.accumulators = s.accumulators
        ∧ t.intervalPartial = s.intervalPartial
        ∧ (c.cause ≠ .setup →
          t.store.chains = ⟨demand, loaded s.store.chains.overdue, inhibit⟩))
    ∧ (examined → inhibited → s.store.closeOptions.lineMode = .edge → t.latch = false)
    ∧ (¬ examined ∨ s.store.closeOptions.lineMode = .off
        ∨ (inhibited ∧ s.store.closeOptions.lineMode = .level) → t.latch = s.latch)
    ∧ t.doneOwed = false
    ∧ t = { s with
        ports := t.ports, engine := t.engine, claim := t.claim, reopen := t.reopen
        latch := t.latch, closeState := t.closeState, currentClose := t.currentClose
        doneOwed := t.doneOwed, building := t.building, accumulators := t.accumulators
        intervalPartial := t.intervalPartial
        store := { s.store with
          registers := t.store.registers, channels := t.store.channels
          intervalIndex := t.store.intervalIndex, log := t.store.log
          periodNumber := t.store.periodNumber, periodDuration := t.store.periodDuration
          overdueHeld := t.store.overdueHeld, chains := t.store.chains, mode := t.store.mode } }

/-- A recognized fall sets the latch, which takes a LINE close in IDLE and RUN without an inhibit, is
cleared there in EDGE mode with the inhibit, and waits in every other case. A recognized rise clears the
latch in LEVEL mode and leaves it in EDGE mode. That these rows are the sample tick at CLOSEIN, taken ahead of
the rest of that tick, is the model's choice (log 4). -/
def Obligations.CloseInEdgesActOnTheLatch : Prop :=
  ∀ (s : State), sampleFalls s = true → TickPart.closein ∉ s.prescaler.early →
    s.supply = .runSupply → s.store.mode ≠ .setup →
    let m := s.store.closeOptions.lineMode
    let phase : Prescaler := { s.prescaler with early := .closein :: s.prescaler.early }
    let fallen : State :=
      { s with recognizer := ⟨.low, false, 0⟩, latch := true, prescaler := phase }
    let free : Prop := s.closeState = .idle ∧ s.store.mode = .run
    (m ≠ .off → s.recognizer = ⟨.high, false, 2⟩ →
      (free → inhibitActive s = false →
        exec .recognizedFallingEdge s = .next (takeClose .line none fallen))
      ∧ (free → inhibitActive s = true → m = .edge →
        exec .recognizedFallingEdge s = .next { fallen with latch := false })
      ∧ (¬ free ∨ (inhibitActive s = true ∧ m = .level) →
        exec .recognizedFallingEdge s = .next fallen))
    ∧ (m ≠ .off → s.recognizer = ⟨.low, true, 2⟩ →
      exec .recognizedRisingEdge s = .next { s with
        recognizer := ⟨.high, true, 0⟩
        latch := if m = .level then false else s.latch
        prescaler := phase })

/-- An OVERDUE expiry leaves the chain EXPIRED; it is discarded where not enabled or with a close in flight,
held out of RUN-SUPPLY, in ENTERING_SETUP and under an inhibit, and else takes a close. An INHIBIT expiry
leaves the chain EXPIRED and the inhibit inactive; in RUN and IDLE it takes a held OVERDUE request, else a
pending LEVEL request, and in every other case nothing. That these rows are the tick at one chain, taken
ahead of the rest of that tick, is the model's choice (log 4), and RESTORE counts as RETAIN (log 21). -/
def Obligations.ExpiriesAtThePeriodUnit : Prop :=
  (∀ (s : State), s.store.mode ≠ .setup →
    s.store.chains.overdue.state = .running → s.store.chains.overdue.count = 1 →
    chainTickFalls s.store.chains.overdue.tick s = true →
    TickPart.chain s.store.chains.overdue.tick .overdue ∉ s.prescaler.early →
    let expired : State := { s with
      prescaler := { s.prescaler with
        early := .chain s.store.chains.overdue.tick .overdue :: s.prescaler.early }
      store := { s.store with
        chains := { s.store.chains with
          overdue := { s.store.chains.overdue with count := 0, state := .expired } } } }
    let waiting : State := { expired with store := { expired.store with overdueHeld := true } }
    let enabled := s.store.closeOptions.overdueEnabled
    (enabled = false ∨ s.closeState ≠ .idle → exec .overdueExpiry s = .next expired)
    ∧ (enabled = true → s.closeState = .idle →
        (s.supply ≠ .runSupply ∨ s.store.mode = .enteringSetup ∨ inhibitActive s = true) →
        exec .overdueExpiry s = .next waiting)
    ∧ (enabled = true → s.closeState = .idle → s.supply = .runSupply → s.store.mode = .run →
        inhibitActive s = false →
        exec .overdueExpiry s = .next (takeClose .overdue none expired)))
  ∧ ∀ (s : State), s.store.chains.inhibit.state = .running → s.store.chains.inhibit.count = 1 →
    chainTickFalls s.store.chains.inhibit.tick s = true →
    TickPart.chain s.store.chains.inhibit.tick .inhibit ∉ s.prescaler.early →
    let expired : State := { s with
      prescaler := { s.prescaler with
        early := .chain s.store.chains.inhibit.tick .inhibit :: s.prescaler.early }
      store := { s.store with
        chains := { s.store.chains with
          inhibit := { s.store.chains.inhibit with count := 0, state := .expired } } } }
    let acts : Prop := s.supply = .runSupply ∧ s.closeState = .idle ∧ s.store.mode = .run
    let overdue : Prop :=
      s.store.overdueHeld = true ∧ s.store.closeOptions.overdueEnabled = true
    let line : Prop := s.store.closeOptions.lineMode = .level ∧ s.latch = true
      ∧ s.recognizer.level = .low
    inhibitActive expired = false
    ∧ (acts → overdue → exec .inhibitExpiry s = .next (takeClose .overdue none expired))
    ∧ (acts → ¬ overdue → line → exec .inhibitExpiry s = .next (takeClose .line none expired))
    ∧ (¬ acts ∨ (¬ overdue ∧ ¬ line) → exec .inhibitExpiry s = .next expired)

/-- READ LOG, by NEWEST minus n or by period number, answers a chunk of at most 48 bytes of the record
selected, with its number, its size and the offset; DAMAGED with number and size for a record marked so, and
for one that fails its check at this read, which marks it; NOT_FOUND where no record is selected. CLEAR LOG
empties the log and keeps everything else. The empty data of a refusal is the model's reading (log 9). -/
def Obligations.LogReadAndCleared : Prop :=
  ∀ (p : PortId) (s : State), Takes p s →
    let entries := s.store.log.entries
    let byBack (n offset : Nat) : Instr := .readLog p (0 :: bigEndian 2 n ++ bigEndian 2 offset)
    let byNumber (number : BitVec 16) (offset : Nat) : Instr :=
      .readLog p (1 :: bigEndian 2 number.toNat ++ bigEndian 2 offset)
    (∀ (n offset : Nat) (e : LogEntry) (row : Instr), n ≤ 31 → offset ≤ 445 →
      n < entries.length → entries[entries.length - 1 - n]? = some e →
      let number := s.store.periodNumber - 1 - BitVec.ofNat 16 n
      row = byBack n offset ∨ row = byNumber number offset →
      let found := bigEndian 2 number.toNat ++ bigEndian 2 e.size
      let marked :=
        logOf (entries.modify (entries.length - 1 - n) fun x => { x with damaged := true })
      (e.damaged = false → recordCheckOk e.bytes = true → offset < e.size →
        exec row s = .next (afterAnswer p .readLog .ok
          (found ++ bigEndian 2 offset ++ (e.bytes.drop offset).take 48) s))
      ∧ (e.damaged = true → exec row s = .next (afterAnswer p .readLog .damaged found s))
      ∧ (e.damaged = false → recordCheckOk e.bytes = false →
        exec row s = .next (afterAnswer p .readLog .damaged found
          { s with store := { s.store with log := marked } }))
      ∧ (e.damaged = false → recordCheckOk e.bytes = true → e.size ≤ offset →
        exec row s = .next (afterAnswer p .readLog .badArgument [] s)))
    ∧ (∀ n offset : Nat, n ≤ 31 → offset ≤ 445 → entries.length ≤ n →
        exec (byBack n offset) s = .next (afterAnswer p .readLog .notFound [] s))
    ∧ (∀ (number : BitVec 16) (offset : Nat), offset ≤ 445 →
        entries.length ≤ (s.store.periodNumber - 1 - number).toNat →
        exec (byNumber number offset) s = .next (afterAnswer p .readLog .notFound [] s))
    ∧ (Edits p s → exec (.clearLog p []) s = .next (afterAnswer p .clearLog .ok []
        { s with store := { s.store with log := logOf [] } }))

/-! ### Snapshots -/

/-- SNAPSHOT OPEN gives the lowest FREE slot as PENDING and places its capture request; a port with two
slots gets SLOT_LIMIT, a pool with none FREE gives NO_SLOT, and a list with a repeated register is refused
with BAD_ARGUMENT. The empty data of a refusal is the model's reading (log 9). -/
def Obligations.SnapshotOpenGivesTheLowestSlot : Prop :=
  ∀ (p : PortId) (lease : Byte) (regs : List RegSlot) (s : State), Takes p s →
    s.store.rights[p].snap = true → 1 ≤ lease.toNat → 1 ≤ regs.length → regs.length ≤ 16 →
    let row := Instr.snapshotOpen p (lease :: regs.map fun i => byte i.val)
    (∀ i : SnapId, regs.Nodup → slotCount s p < 2 → s.slots[i] = .free →
      (∀ j : SnapId, j < i → s.slots[j] ≠ .free) →
      exec row s = .next (afterAnswer p .snapshotOpen .accepted [byte i.val, byte regs.length]
        { s with
          slots := s.slots.set i (.pending ⟨p, regs, lease.toNat⟩)
          captureQueue := s.captureQueue ++ [i] }))
    ∧ (regs.Nodup → 2 ≤ slotCount s p →
      exec row s = .next (afterAnswer p .snapshotOpen .slotLimit [] s))
    ∧ (regs.Nodup → slotCount s p < 2 → (∀ i : SnapId, s.slots[i] ≠ .free) →
      exec row s = .next (afterAnswer p .snapshotOpen .noSlot [] s))
    ∧ (¬ regs.Nodup → exec row s = .next (afterAnswer p .snapshotOpen .badArgument [] s))

/-- SNAPSHOT READ answers the captured entries of a HELD slot of its own port and changes no slot; SNAPSHOT
RELEASE frees a slot of its own port and withdraws its request; either on another port's or a FREE slot
answers NOT_HELD, and READ on a PENDING one NOT_READY. The empty data of a refusal is the model's reading
(log 9). -/
def Obligations.SnapshotReadAndReleased : Prop :=
  ∀ (p : PortId) (i : SnapId) (s : State), Takes p s →
    (∀ (first count : Nat) (o : Opened) (remaining : Nat) (entries : List CapturedEntry)
        (stamp : Stamp), first ≤ 15 → 1 ≤ count → count ≤ 4 →
      let row := Instr.snapshotRead p [byte i.val, byte first, byte count]
      let part := (entries.drop first).take count
      (s.slots[i] = .held o remaining entries stamp → o.holder = p → first < o.list.length →
        exec row s = .next (afterAnswer p .snapshotRead .ok
          ([byte i.val, byte o.list.length, byte remaining] ++ bigEndian 4 stamp.counter.toNat
            ++ bigEndian 2 stamp.period.toNat
            ++ [tariffCode stamp.tariff, byte first, byte part.length]
            ++ part.flatMap capturedEntryBytes) s))
      ∧ (s.slots[i] = .held o remaining entries stamp → o.holder = p → o.list.length ≤ first →
        exec row s = .next (afterAnswer p .snapshotRead .badArgument [] s))
      ∧ (s.slots[i] = .pending o → o.holder = p →
        exec row s = .next (afterAnswer p .snapshotRead .notReady [] s))
      ∧ (slotHolder s.slots[i] ≠ some p →
        exec row s = .next (afterAnswer p .snapshotRead .notHeld [] s)))
    ∧ (slotHolder s.slots[i] ≠ some p → exec (.snapshotRelease p [byte i.val]) s
        = .next (afterAnswer p .snapshotRelease .notHeld [] s))
    ∧ (slotHolder s.slots[i] = some p → exec (.snapshotRelease p [byte i.val]) s
        = .next (afterAnswer p .snapshotRelease .ok []
          { s with
            slots := s.slots.set i .free
            captureQueue := s.captureQueue.filter (· != i)
            engine := match s.engine with
              | .capturing j w copies stamp => .capturing j (w || j == i) copies stamp
              | e => e }))

/-- SNAPSHOT RENEW sets the remaining lease of a HELD slot of its own port to its lease, and answers the
slot and that lease. The empty data of a refusal is the model's reading (log 9). -/
def Obligations.SnapshotRenewRestoresTheLease : Prop :=
  ∀ (p : PortId) (i : SnapId) (b : Byte) (s : State), Takes p s →
    (4 ≤ b.toNat → exec (.snapshotRenew p [b]) s
      = .next (afterAnswer p .snapshotRenew .badArgument [] s))
    ∧ (slotHolder s.slots[i] ≠ some p → exec (.snapshotRenew p [byte i.val]) s
      = .next (afterAnswer p .snapshotRenew .notHeld [] s))
    ∧ (∀ o : Opened, s.slots[i] = .pending o → o.holder = p →
        exec (.snapshotRenew p [byte i.val]) s
          = .next (afterAnswer p .snapshotRenew .notReady [] s))
    ∧ ∀ (o : Opened) (remaining : Nat) (entries : List CapturedEntry) (stamp : Stamp),
        s.slots[i] = .held o remaining entries stamp → o.holder = p →
        exec (.snapshotRenew p [byte i.val]) s
          = .next (afterAnswer p .snapshotRenew .ok [byte i.val, byte o.lease]
              { s with slots := s.slots.set i (.held o o.lease entries stamp) })

/-- A capture copies the listed registers in list order as they stand after their check words are verified,
with the stamp of that moment; one that does not match is SUSPECT, and its SUSPECT notice (found at CAPTURE)
raised, in list order by the model's choice (log 34). At its arrival the slot is HELD with its full lease, and
DONE is offered to its holder; a withdrawn one is discarded; a POST at the arbiter goes on waiting. An edit or
a COMMIT that comes while the engine is CAPTURING is refused at once where it fails a check, and waits where
it passes; at the end of the capture it is checked again and taken, and the command behind it follows, by the
model's reading (log 12). -/
def Obligations.CaptureCopiesTheList : Prop :=
  ∀ (s : State),
    (∀ (i : SnapId) (rest : List SnapId) (o : Opened), s.captureQueue = i :: rest →
      s.slots[i] = .pending o → captureTaken s = true →
      ∃ t : State, exec .captureStart s = .next t
      ∧ t.captureQueue = rest
      ∧ t.engine = .capturing i false
          (o.list.map fun j =>
            capturedEntry j (scaleOf s t.store.registers[j].quantity) t.store.registers[j])
          ⟨s.store.applicationCounter, s.store.periodNumber, s.store.activeTariff⟩
      ∧ (∀ j : RegSlot, (j ∉ o.list ∨ checkMatches s j s.store.registers[j] = true) →
          t.store.registers[j] = s.store.registers[j])
      ∧ (∀ j ∈ o.list, s.store.registers[j].state ≠ .free →
          checkMatches s j s.store.registers[j] = false →
          t.store.registers[j].state = .suspect)
      ∧ (o.list.Nodup → ∀ p : PortId, t.ports[p] = told s (suspectNotices .capture s o.list) p)
      ∧ t = { s with
          captureQueue := t.captureQueue, engine := t.engine, ports := t.ports
          store := { s.store with registers := t.store.registers } })
    ∧ (∀ (i : SnapId) (withdrawn : Bool) (copies : List CapturedEntry) (stamp : Stamp),
      s.engine = .capturing i withdrawn copies stamp →
      let free : Engine := if s.store.mode = .setup then .halted else .ready
      let arrived (o : Opened) : State := offer o.holder
        ⟨.done, 0x20, 0, byte i.val, byte (stamp.counter.toNat / 256), byte stamp.counter.toNat⟩
        { s with slots := s.slots.set i (.held o o.lease copies stamp), engine := free }
      let others (q : PortId) : Prop := ∀ (p : PortId) (ex : Execution), p ≠ q →
        s.ports[p].execution = some ex → takenByEngine ex.command.kind = false
      ((∀ (p : PortId) (ex : Execution), s.ports[p].execution = some ex →
          takenByEngine ex.command.kind = false) →
        (withdrawn = true → exec .captureCompletion s = .next { s with engine := free })
        ∧ ∀ o : Opened, withdrawn = false → s.slots[i] = .pending o →
            exec .captureCompletion s = .next (arrived o))
      ∧ ∀ (q : PortId) (ex : Execution), others q → s.ports[q].execution = some ex →
        takenByEngine ex.command.kind = true →
        (withdrawn = true →
          exec .captureCompletion s = .next (takeWaiting (runOne q ex { s with engine := free }) q))
        ∧ ∀ o : Opened, withdrawn = false → s.slots[i] = .pending o →
            exec .captureCompletion s = .next (takeWaiting (runOne q ex (arrived o)) q))
    ∧ (∀ (p : PortId) (ex : Execution) (st : Status) (data : List Byte) (t : State),
        commonRefusal p ex.command s = none → capturing s = false →
        dispatched p ex.command s = ⟨t, some (st, data)⟩ →
        runOne p ex s = onPort p (fun q => finished q ex st data t.store.applicationCounter) t)
    ∧ ∀ (i : Instr) (p : PortId) (k : CommandKind) (args : List Byte), i.wellFormed = true →
        requestOf i = some (p, k, args) → takenByEngine k = true → Takes p s →
        commonRefusal p ⟨k, args⟩ s = none → capturing s = true →
        (∀ (st : Status) (data : List Byte), st ≠ .ok →
          (dispatched p ⟨k, args⟩ (openFrame p s)).result = some (st, data) →
          exec i s = .next (afterAnswer p k st data s))
        ∧ ∀ data : List Byte,
          (dispatched p ⟨k, args⟩ (openFrame p s)).result = some (.ok, data) →
          exec i s = .next (onPort p (fun q =>
            { framed q with execution := some ⟨⟨k, args⟩, true⟩, wire := .waitBytes }) s)

/-- The second tick that brings a remaining lease to 0 frees the slot and offers LEASE, with the lease and
the counter of the stamp, to its holder whatever its mask; the slots below it take that tick before it, so that
LEASE notices come in slot order. That this row is the second tick at one slot and those below, taken ahead of
the rest of that tick, is the model's choice (log 4). -/
def Obligations.LeaseExpiryFreesTheSlot : Prop :=
  ∀ (i : SnapId) (o : Opened) (entries : List CapturedEntry) (stamp : Stamp) (s : State),
    secondFalls s = true → TickPart.lease i ∉ s.prescaler.early →
    s.slots[i] = .held o 1 entries stamp →
    let untaken (j : SnapId) : Prop := TickPart.lease j ∉ s.prescaler.early
    let clear (j : SnapId) : Prop := j ∉ s.captureQueue
      ∧ ∀ w copies st, s.engine ≠ .capturing j w copies st
    ((∀ j : SnapId, j < i → ¬ untaken j) → clear i →
      exec (.leaseExpiry i) s = .next (offer o.holder
        ⟨.lease, byte i.val, byte o.lease, byte (stamp.counter.toNat / 256),
          byte stamp.counter.toNat, 0⟩
        { s with
          slots := s.slots.set i .free
          prescaler := { s.prescaler with early := .lease i :: s.prescaler.early } }))
    ∧ ∃ t : State, exec (.leaseExpiry i) s = .next t
      ∧ (∀ j : SnapId,
          (j ≤ i → untaken j → t.slots[j] =
            match s.slots[j] with
            | .held o remaining entries stamp =>
              if remaining ≤ 1 then .free else .held o (remaining - 1) entries stamp
            | .pending o => .pending o
            | .free => .free)
          ∧ (i < j ∨ ¬ untaken j → t.slots[j] = s.slots[j]))
      ∧ (∀ p : PortId, t.ports[p] = told s
          (([0, 1, 2, 3] : List SnapId).filterMap fun j => match s.slots[j] with
            | .held o remaining _ stamp =>
              if j ≤ i ∧ remaining ≤ 1 ∧ o.holder = p
                  ∧ s.prescaler.early.contains (.lease j) = false then
                some ⟨.lease, byte j.val, byte o.lease, byte (stamp.counter.toNat / 256),
                  byte stamp.counter.toNat, 0⟩
              else none
            | .pending _ | .free => none) p)
      ∧ (∀ x : TickPart, x ∈ t.prescaler.early ↔
          x ∈ s.prescaler.early ∨ ∃ j : SnapId, j ≤ i ∧ x = .lease j)
      ∧ ((∀ j : SnapId, clear j) → t.captureQueue = s.captureQueue ∧ t.engine = s.engine)
      ∧ t = { s with
          slots := t.slots, ports := t.ports, captureQueue := t.captureQueue, engine := t.engine
          prescaler := { s.prescaler with early := t.prescaler.early } }

/-! ### Setup and rights -/

/-- CLAIM SETUP gives a free claim to a port with the SETUP right, keeps it for its holder, and answers
CLAIMED to another port. RELEASE SETUP releases it. The empty data of a refusal is the model's reading (log
9). -/
def Obligations.ClaimSetupAndRelease : Prop :=
  ∀ (p : PortId) (s : State), Takes p s → s.store.mode = .setup →
    (s.store.rights[p].setup = true → (s.claim = none ∨ s.claim = some p) →
      exec (.claimSetup p []) s
        = .next (afterAnswer p .claimSetup .ok [] { s with claim := some p }))
    ∧ (∀ q : PortId, s.store.rights[p].setup = true → s.claim = some q → q ≠ p →
      exec (.claimSetup p []) s = .next (afterAnswer p .claimSetup .claimed [] s))
    ∧ (s.store.rights[p].setup = false →
      exec (.claimSetup p []) s = .next (afterAnswer p .claimSetup .noRight [] s))
    ∧ (s.claim = some p → exec (.releaseSetup p []) s
        = .next (afterAnswer p .releaseSetup .ok [] { s with claim := none }))

/-- SET RIGHTS, SET TARIFF SOURCE, SET CLOSE OPTIONS and DEFINE DEMAND CHANNEL write their item and the
signature, and nothing else but what their rules name. The two answer bytes of SET RIGHTS are the model's
reading (log 27). The empty data of a refusal is the model's reading (log 9). -/
def Obligations.ConfigurationEditsWriteTheirItem : Prop :=
  ∀ (p : PortId) (s : State), Edits p s →
    (∀ (q : PortId) (postMask : Byte) (tariff close snap setup : Bool),
      let b := byte (tariff.toNat + 2 * close.toNat + 4 * snap.toNat + 8 * setup.toNat)
      exec (.setRights p [byte q.val, postMask, b]) s
        = .next (afterAnswer p .setRights .ok [postMask, b]
            { s with store := writeSignature { s.store with
                rights := s.store.rights.set q ⟨postMask, tariff, close, snap, setup⟩ } }))
    ∧ (∀ (m : SourceMode) (setIt : Bool) (t : Tariff),
      let after := if setIt then t else s.store.activeTariff
      exec (.setTariffSource p [byte (sourceNat m), boolCode setIt, tariffCode t]) s
        = .next (afterAnswer p .setTariffSource .ok [byte (sourceNat m), tariffCode after]
            { s with store := writeSignature { s.store with
                sourceMode := m, activeTariff := after } }))
    ∧ (∀ (m : LineMode) (overdue inhibit : Bool),
      exec (.setCloseOptions p [byte (lineModeNat m), boolCode overdue, boolCode inhibit]) s
        = .next (afterAnswer p .setCloseOptions .ok []
            { s with store := writeSignature { s.store with
                closeOptions := ⟨m, overdue, inhibit⟩ } }))
    ∧ ∀ (c : ChannelId) (q : Option Quantity),
      (∀ x ∈ q, s.store.quantities[x].defined = true) →
      let taken : Prop := q ≠ none ∧ ∃ d : ChannelId, d ≠ c ∧ s.store.channels[d].quantity = q
      let row := Instr.defineDemandChannel p [byte c.val, optionCode q]
      (¬ taken → exec row s = .next (afterAnswer p .defineDemandChannel .ok []
          { s with
            store := writeSignature { s.store with
              channels := s.store.channels.set c ⟨q, Vector.replicate 4 ⟨0, 0⟩⟩ }
            accumulators := s.accumulators.set c 0 }))
      ∧ (taken → exec row s = .next (afterAnswer p .defineDemandChannel .conflict [] s))

/-- DEFINE CHAIN writes an entry that lies in G0 to G3 apart from the other chains as STOPPED with count 0,
empties an entry it unassigns, and refuses an overlap with BAD_ARGUMENT. The empty data of a refusal is the
model's reading (log 9). -/
def Obligations.DefineChainKeepsChainsApart : Prop :=
  ∀ (p : PortId) (f : ChainFn) (s : State), Edits p s →
    let code : Byte := match f with
      | .demand => 0 | .overdue => 1 | .inhibit => 2
    let write (c : Chain) : State :=
      { s with store := writeSignature { s.store with chains := withChain s.store.chains f c } }
    (∀ rest : List Byte, rest.length = 9 →
      exec (.defineChain p (code :: 1 :: rest)) s
        = .next (afterAnswer p .defineChain .ok [] (write unassignedChain)))
    ∧ ∀ (first n reload : Nat) (tick : ChainTick), 1 ≤ n → first + n ≤ 4 → 1 ≤ reload →
      reload < 4096 ^ n →
      let apart : Prop := ∀ g : ChainFn, g ≠ f → (chainOf s.store.chains g).state ≠ .unassigned →
        first + n ≤ (chainOf s.store.chains g).first
        ∨ (chainOf s.store.chains g).first + (chainOf s.store.chains g).length ≤ first
      let row := Instr.defineChain p
        ([code, 0, byte first, byte n, byte (chainTickNat tick)] ++ bigEndian 6 reload)
      (apart → exec row s = .next (afterAnswer p .defineChain .ok []
          (write ⟨first, n, tick, reload, .stopped, 0⟩)))
      ∧ (¬ apart → exec row s = .next (afterAnswer p .defineChain .badArgument [] s))

/-- COMMIT: refused with the reason and index of the first check that fails, whether or not the engine is
CAPTURING; else, as one event, RUN, the claim released, the engine READY, the lines and CLOSEIN started
afresh, the demand interval started, OVERDUE loaded and INHIBIT released; and while the engine is CAPTURING, it
waits. The recognizer's run level is the model's value (log 23), that the interval index rises its choice (log 37), and
the waiting its reading (log 12). -/
def Obligations.CommitStartsCounting : Prop :=
  ∀ (p : PortId) (s : State), Takes p s → s.store.mode = .setup → s.claim = some p →
    let cs := s.store.chains
    let needsDemand : Prop := ∃ c : ChannelId, s.store.channels[c].quantity ≠ none
    let lacks1 : Prop := needsDemand ∧ cs.demand.state = .unassigned
    let lacks2 : Prop :=
      s.store.closeOptions.overdueEnabled = true ∧ cs.overdue.state = .unassigned
    let lacks3 : Prop :=
      s.store.closeOptions.inhibitEnabled = true ∧ cs.inhibit.state = .unassigned
    let lacks4 : Prop := ∀ q : PortId, s.store.rights[q].setup = false
    let refused (reason index : Byte) : State :=
      afterAnswer p .commit .commitRefused [reason, index] s
    (lacks1 → exec (.commit p []) s = .next (refused 3 0))
    ∧ (¬ lacks1 → lacks2 → exec (.commit p []) s = .next (refused 4 1))
    ∧ (¬ lacks1 → ¬ lacks2 → lacks3 → exec (.commit p []) s = .next (refused 5 2))
    ∧ (¬ lacks1 → ¬ lacks2 → ¬ lacks3 → lacks4 → exec (.commit p []) s = .next (refused 6 0))
    ∧ (¬ lacks1 → ¬ lacks2 → ¬ lacks3 → ¬ lacks4 → capturing s = false →
      exec (.commit p []) s = .next (afterAnswer p .commit .ok []
        { s with
          store := { s.store with
            mode := .run
            overdueHeld := false
            intervalIndex := min (s.store.intervalIndex + 1) 65535
            chains := ⟨loaded cs.demand, loaded cs.overdue, released cs.inhibit⟩ }
          claim := none
          engine := .ready
          lineHistory := none
          recognizer := ⟨.unknown, false, 0⟩
          latch := false
          inputs := s.inputs.map fun i => { i with eligible := false }
          accumulators := Vector.replicate 4 0
          intervalPartial := true }))
    ∧ (¬ lacks1 → ¬ lacks2 → ¬ lacks3 → ¬ lacks4 → capturing s = true →
      exec (.commit p []) s = .next (onPort p (fun q =>
        { framed q with execution := some ⟨⟨.commit, []⟩, true⟩, wire := .waitBytes }) s))

/-- REOPEN in RUN and IDLE makes the mode ENTERING_SETUP and records its requester; with a close in flight
it is CLOSE_BUSY. The SETUP close is placed once the queue is empty, no capture waits, no input is eligible
and the engine is READY, whatever the inhibit. That the placing is a step of its own is the model's choice
(log 31); the empty data of a refusal its reading (log 9). -/
def Obligations.ReopenLeadsToTheSetupClose : Prop :=
  ∀ (s : State),
    (∀ p : PortId, Takes p s → s.store.mode = .run → s.store.rights[p].setup = true →
      (s.closeState = .idle → exec (.reopen p []) s = .next (afterAnswer p .reopen .accepted
        (bigEndian 2 s.store.periodNumber.toNat)
        { s with
          store := { s.store with mode := .enteringSetup }
          reopen := some ⟨p, true⟩
          inputs := s.inputs.map fun i => { i with served := false } }))
      ∧ (s.closeState ≠ .idle →
        exec (.reopen p []) s = .next (afterAnswer p .reopen .closeBusy [] s)))
    ∧ (∀ r : Reopen, s.reopen = some r → s.store.mode = .enteringSetup → s.supply = .runSupply →
        s.closeState = .idle → s.queue = [] → s.captureQueue = [] → s.engine = .ready →
        (∀ n : InputId, ¬(s.store.pulseDefs[n].enabled = true
          ∧ (s.store.pulseDefs[n].threshold ≤ s.store.pulseCounts[n].pending
            ∨ s.inputs[n].eligible = true)
          ∧ s.inputs[n].served = false)) →
        exec .setupClosePlacement s = .next { s with
          store := { s.store with
            overdueHeld := false
            chains := { s.store.chains with demand := held s.store.chains.demand } }
          closeState := .requested
          currentClose := some ⟨.setup, some r.requester⟩
          doneOwed := false
          latch := false
          inputs := s.inputs.map fun i => { i with eligible := false }
          accumulators := Vector.replicate 4 0
          intervalPartial := true })

/-! ### Supply and reset -/

/-- PFAIL asserted in RUN-SUPPLY is drain entry: queues emptied, slots freed and their captures withdrawn, the
claim dropped, a REOPEN whose close is not placed abandoned, the converter's marks and the latch cleared,
DEMAND held. A command in execution is answered POWER_FAIL, and the command waiting behind it enters
execution and meets the checks of a part in drain; a port with no command keeps its record and its mask. The
increment queue, the registers and the close in flight stay. In every other supply state with power only the
level changes. That the row is PFAIL's assertion, that every command without a result is answered POWER_FAIL,
and the empty data of these answers, are the model's readings (logs 18, 13 and 9). -/
def Obligations.DrainEntryStopsTheOutside : Prop :=
  (∀ s : State, s.supply = .drain ∨ s.supply = .retain ∨ s.supply = .restore →
    exec .drainEntry s = .next { s with pfailAsserted := true })
  ∧ ∀ (s : State), s.supply = .runSupply →
    let failed (w : Execution) : Status :=
      if known w.command.kind = false then .unknownCommand
      else if lengthAllowed w.command.kind w.command.args.length = false then .badLength
      else .powerFail
    ∃ t : State, exec .drainEntry s = .next t
    ∧ t.supply = .drain ∧ t.pfailAsserted = true ∧ t.claim = none ∧ t.latch = false
    ∧ (∀ p : PortId,
        let quiet : Port := { s.ports[p] with notices := [], attn := false }
        t.ports[p] = match s.ports[p].execution, s.ports[p].waiting with
          | none, _ => quiet
          | some ex, none => finished quiet ex .powerFail [] s.store.applicationCounter
          | some ex, some w =>
            finished
              { finished quiet ex .powerFail [] s.store.applicationCounter with waiting := none }
              w (failed w) [] s.store.applicationCounter)
    ∧ (∀ i : SnapId, t.slots[i] = .free) ∧ t.captureQueue = []
    ∧ (∀ n : InputId, t.inputs[n] = { s.inputs[n] with eligible := false })
    ∧ t.store = { s.store with
        mode := if s.store.mode = .enteringSetup ∧ s.closeState = .idle then .run else s.store.mode
        chains := { s.store.chains with demand := held s.store.chains.demand } }
    ∧ t.reopen =
        (if s.store.mode = .enteringSetup ∧ s.closeState = .idle then none else s.reopen)
    ∧ t.engine = (match s.engine with
        | .capturing j _ copies stamp => .capturing j true copies stamp
        | e => e)
    ∧ t = { s with
        supply := t.supply, pfailAsserted := t.pfailAsserted, claim := t.claim, latch := t.latch
        ports := t.ports, slots := t.slots, captureQueue := t.captureQueue, inputs := t.inputs
        store := t.store, reopen := t.reopen, engine := t.engine }

/-- RETAIN is entered once the drain is complete: the engine HALTED, the retain duration 0, the store kept
but for the DEMAND chain's state and count, which stand HELD at the reload value; RESTORE follows at once
where PFAIL is deasserted. That the entry is a step of its own, and that it does not wait for a capture in
progress, are the model's choices (logs 31 and 38), and that lost state has its value of restore from here on its
reading (log 20). -/
def Obligations.RetainEntryKeepsTheStore : Prop :=
  ∀ (s : State), s.supply = .drain → s.queue = [] → s.closeState = .idle →
    s.store.mode ≠ .enteringSetup → (∀ e ts, s.engine ≠ .applying e ts) →
    ∃ t : State, exec .retainEntry s = .next t
    ∧ t.supply = (if s.pfailAsserted then .retain else .restore)
    ∧ t.engine = .halted ∧ t.retainDuration = 0 ∧ t.portsUp = false
    ∧ t.store = { s.store with chains := { s.store.chains with
        demand := if s.store.chains.demand.state = .unassigned then s.store.chains.demand
          else { s.store.chains.demand with
            state := .held, count := s.store.chains.demand.reload } } }
    ∧ t.prescaler = s.prescaler
    ∧ ∀ n : InputId, t.inputs[n].frontEnd = s.inputs[n].frontEnd

/-- The restore of a store whose signature verifies: every register and log record verified, a failing
register SUSPECT and a failing record damaged, a failing index emptying the log; the configuration and the
other retained items kept; the inputs restarted; the demand interval begun afresh with DEMAND loaded in RUN and
HELD in SETUP; a held OVERDUE taken in RUN without an inhibit; the engine READY in RUN and HALTED in SETUP; the
ports up with RESTORED and then the SUSPECT notices owed, of which a queue holds 8. A store whose signature
fails gives the factory store and RESTORED with the cold flag. With PFAIL asserted again a restore ends in
DRAIN with the ports down, and one that makes a cold start stays in RETAIN. A deassertion in RUN-SUPPLY or
DRAIN changes the level only. That the row is PFAIL's deassertion is the model's reading (log 18); when the level
is looked at in a restore that makes a cold start, and that a restore in RUN raises the interval index, are its
choices (logs 19 and 37). -/
def Obligations.RestoreBringsThePortsUp : Prop :=
  let begins (s : State) : Prop := s.supply = .retain ∨ s.supply = .restore
  let asserted (again : Bool) (s : State) : Prop :=
    again = true ∨ (s.supply = .restore ∧ s.pfailAsserted = true)
  let registersOf (s t : State) : Prop := ∀ i : RegSlot,
    let r := s.store.registers[i]
    let kept (r : RegisterRec) : RegisterRec :=
      { r with check := registerCheck i (scaleOf s r.quantity) r }
    t.store.registers[i] =
      if r.state = .free ∨ checkMatches s i r = true then r
      else if r.state = .suspect then kept r
      else kept (markedSuspect r)
  (∀ (again : Bool) (s : State), begins s → ¬ asserted again s →
    ∃ t : State, exec (.restore again) s = .next t
    ∧ t.supply = .runSupply ∧ t.pfailAsserted = false ∧ t.portsUp = true
    ∧ t.converterPointer = 7 ∧ t.arbiterPointer = .converter ∧ t.lineHistory = none
    ∧ t.recognizer.level = .unknown ∧ t.latch = false
    ∧ t.intervalPartial = true ∧ (∀ c : ChannelId, t.accumulators[c] = 0)
    ∧ (signatureOk s.store = false →
        t.store = { factoryStore with coldMarker := false } ∧ t.engine = .halted
        ∧ ∀ p : PortId, t.ports[p] = ⟨none, none, none, [⟨.restored, 1, 0, 0, 0, 0⟩], true, false,
            0x3F#6, .quiet⟩)
    ∧ (signatureOk s.store = true →
        let taken : Prop := s.store.mode = .run ∧ s.store.overdueHeld = true
          ∧ inhibitActive s = false
        let seconds := if s.store.coldMarker then 0 else s.retainDuration
        let notices : List Notice :=
          ⟨.restored, boolCode s.store.coldMarker, byte (seconds / 2 ^ 24), byte (seconds / 2 ^ 16),
            byte (seconds / 2 ^ 8), byte seconds⟩
          :: suspectNotices .restore s (List.finRange 32)
        let demand := s.store.chains.demand
        registersOf s t
        ∧ t.store.log = (if indexCheckOk s.store.log then
            logOf (s.store.log.entries.map fun e =>
              { e with damaged := e.damaged || !recordCheckOk e.bytes })
          else logOf [])
        ∧ t.engine = (if s.store.mode = .run then .ready else .halted)
        ∧ (∀ p : PortId, t.ports[p] = ⟨none, none, none, notices.take 8, true,
            decide (8 < notices.length), 0x3F#6, .quiet⟩)
        ∧ t.store.coldMarker = false
        ∧ t.store.intervalIndex = (if s.store.mode = .run then min (s.store.intervalIndex + 1) 65535
            else s.store.intervalIndex)
        ∧ t.store.chains.overdue = s.store.chains.overdue
        ∧ t.store.chains.inhibit = s.store.chains.inhibit
        ∧ (demand.state = .unassigned → t.store.chains.demand = demand)
        ∧ (demand.state ≠ .unassigned → t.store.chains.demand.count = demand.reload)
        ∧ (demand.state ≠ .unassigned → (taken ∨ s.store.mode ≠ .run) →
            t.store.chains.demand = { demand with state := .held, count := demand.reload })
        ∧ (demand.state ≠ .unassigned → ¬ taken → s.store.mode = .run →
            t.store.chains.demand = { demand with state := .running, count := demand.reload })
        ∧ (taken → t.closeState = .requested ∧ t.currentClose = some ⟨.overdue, none⟩
            ∧ t.doneOwed = false ∧ t.store.overdueHeld = false)
        ∧ (¬ taken → t.closeState = s.closeState ∧ t.currentClose = s.currentClose
            ∧ t.store.overdueHeld = s.store.overdueHeld)
        ∧ t.store = { s.store with
            registers := t.store.registers, intervalIndex := t.store.intervalIndex
            chains := t.store.chains, log := t.store.log, overdueHeld := t.store.overdueHeld
            coldMarker := t.store.coldMarker }
        ∧ (∀ n : InputId,
            t.inputs[n].frontEnd = (if s.store.pulseDefs[n].enabled then .armed else .disabled)
            ∧ t.inputs[n].lastActive = s.store.pulseDefs[n].enabled
            ∧ t.inputs[n].eligible = false)))
  ∧ (∀ (again : Bool) (s : State), begins s → asserted again s →
    ∃ t : State, exec (.restore again) s = .next t
    ∧ t.pfailAsserted = true ∧ t.portsUp = s.portsUp
    ∧ (signatureOk s.store = true → t.supply = .drain ∧ registersOf s t
        ∧ t.store.coldMarker = s.store.coldMarker)
    ∧ (signatureOk s.store = false → t.supply = .retain ∧ t.store = factoryStore
        ∧ t.retainDuration = 0 ∧ t.ports = s.ports))
  ∧ ∀ (again : Bool) (s : State), s.supply = .runSupply ∨ s.supply = .drain →
    exec (.restore again) s = .next { s with pfailAsserted := false }

/-- A power-up verifies the signature: it keeps a store that verifies, its DEMAND chain HELD at the reload
value, and makes a cold start of one that does not, and enters RETAIN, or RESTORE with PFAIL deasserted. The
loss of both supplies leaves an unpowered part that no tick reaches; what its store then holds is a free value
(log 16), but for the DEMAND chain, which does not run. The unpowered state as a supply state, and how the
inputs stand after a power-up, are the model's choice and reading (logs 31 and 20). -/
def Obligations.PowerUpAndLossOfSupplies : Prop :=
  (∀ (pfailDeasserted : Bool) (s : State), s.supply = .unpowered →
    ∃ t : State, exec (.powerUp pfailDeasserted) s = .next t
    ∧ t.supply = (if pfailDeasserted then .restore else .retain)
    ∧ t.pfailAsserted = !pfailDeasserted
    ∧ t.prescaler = ⟨0, 0, []⟩ ∧ t.retainDuration = 0
    ∧ (signatureOk s.store = true →
        t.store = { s.store with chains := { s.store.chains with
          demand := if s.store.chains.demand.state = .unassigned then s.store.chains.demand
            else { s.store.chains.demand with
              state := .held, count := s.store.chains.demand.reload } } }
        ∧ ∀ n : InputId, t.inputs[n].frontEnd
            = if s.store.pulseDefs[n].enabled then .armed else .disabled)
    ∧ (signatureOk s.store = false → t.store = factoryStore
        ∧ ∀ n : InputId, t.inputs[n].frontEnd = .disabled))
  ∧ (∀ s : State, s.supply ≠ .unpowered →
    ∃ t : State, exec .lossOfBothSupplies s = .next t
    ∧ t.supply = .unpowered ∧ t.portsUp = false ∧ t.queue = [] ∧ t.engine = .halted
    ∧ t.store.chains.demand.state ≠ .running
    ∧ ∀ (hi lo : Bool) (pls : BitVec 8) (first : List TickTaker),
        exec (.sampleTick pls hi) t = .next t ∧ exec (.secondTick hi lo first) t = .next t
        ∧ exec (.minuteTick first) t = .next t)

/-- RESET asserted does for every port what PORT RESET does for one, abandons every frame and withdraws
every command and every capture, the one in progress included; a REOPEN goes on with its grant and DONE
cancelled; the increment queue, the store, the close and the part mode are untouched, and a part whose ports
have no power notes the level only. RESET returning high lets the ports decode again. A frame that RESET met, its
request not complete included, and one begun while RESET is low, drives nothing from then on, whatever the
states that follow, and the phase of a new frame goes on in a state in which the ports listen. The level noted
is the model's choice (log 26), and the phase of the frame an operand (log 29). -/
def Obligations.ResetPinResetsThePorts : Prop :=
  ∀ (s : State),
    (s.resetLow = false → s.portsUp = true →
      ∃ t : State, exec .resetPin s = .next t
      ∧ t.resetLow = true
      ∧ (∀ p : PortId, t.ports[p] = ⟨none, none, none, [], false, false, 0x3F#6, .quiet⟩)
      ∧ (∀ i : SnapId, t.slots[i] = .free) ∧ t.captureQueue = []
      ∧ t.claim = none ∧ t.doneOwed = false
      ∧ t.reopen = s.reopen.map (fun r => { r with owed := false })
      ∧ t.engine = (match s.engine with
          | .capturing j _ copies stamp => .capturing j true copies stamp
          | e => e)
      ∧ t = { s with
          resetLow := t.resetLow, ports := t.ports, slots := t.slots
          captureQueue := t.captureQueue, claim := t.claim, doneOwed := t.doneOwed
          reopen := t.reopen, engine := t.engine })
    ∧ (s.resetLow = false → s.portsUp = false →
      exec .resetPin s = .next { s with resetLow := true })
    ∧ exec .resetPinRelease s = .next { s with resetLow := false }
    ∧ (s.resetLow = true →
      ∀ (p : PortId) (phase : FramePhase) (clocked : Bool) (rest : List (State × Bool)),
        (phase ≠ .unselected → phaseIn s phase = .abandoned)
        ∧ ∀ b ∈ drivenBytes p phase ((s, clocked) :: rest), b = none)
    ∧ (s.resetLow = false → s.portsUp = true →
      ∀ (p : PortId) (phase : FramePhase), phaseIn s phase = phase
        ∧ drivenByte s p .abandoned = none ∧ drivenByte s p .request = some 0xEE)

/-! ### Laws that every step keeps -/

/-- No port's notice queue ever holds more than 8 notices, and ATTN is asserted exactly when the queue
is not empty (R153): kept by every step. -/
def Obligations.NoticeLawKept : Prop := Kept NoticeLaw

/-- The increment queue never holds more than 32 entries, and never more than 28 placed by a port
(R22): kept by every step. The source of an entry is the model's own field (log 24). -/
def Obligations.QueueLawKept : Prop := Kept QueueLaw

/-- No port ever holds more than 2 snapshot slots (R118): kept by every step. -/
def Obligations.SlotLawKept : Prop := Kept SlotLaw

/-- The part without VDD has lost its volatile state; the close state, the record and the engine agree;
the engine is HALTED in SETUP; a REOPEN is recorded exactly in ENTERING_SETUP; the claim is held only
in SETUP; the DEMAND chain runs in RUN-SUPPLY only; the ticks keep their ratios (R32, R89, R133, R139, R141,
R172, R180, R189): kept together by every step. The phase beyond the two counts is the model's (log 5). -/
def Obligations.CoherenceKept : Prop := Kept Coherent

/-- The period log never holds more than 32 records or 2048 bytes (R106): kept by every step but the
loss of both supplies, after which the store is unknown. -/
def Obligations.LogLawKept : Prop := KeptWithStore LogLaw

/-- Pending counts, remainders and disabled inputs (R47): kept by every step but the loss of both
supplies. -/
def Obligations.PulseLawKept : Prop := KeptWithStore PulseLaw

/-- Each counter segment belongs to at most one chain, and each chain lies within G0 to G3 (R135): kept
by every step but the loss of both supplies. -/
def Obligations.ChainLawKept : Prop := KeptWithStore ChainLaw

/-- At most one LIVE or OVERFLOWED register for each quantity and selector (R6): kept, with the
coherence of the volatile state and of the application in flight, by every step but the loss of both
supplies. -/
def Obligations.BindingLawKept : Prop :=
  KeptWithStore fun s => Coherent s ∧ TargetLaw s ∧ BindingLaw s

/-- The application counter changes at the completion of an application in flight, by one, and at the cold
start of a restore or a power-up, to zero; no other step changes it but the loss of both supplies (R41). -/
def Obligations.CounterRisesWithApplications : Prop :=
  ∀ s t : State, losesStore s = false → step s = .next t →
    t.store.applicationCounter = s.store.applicationCounter
    ∨ (s.pending.head? = some .applicationCompletion
        ∧ (∃ e targets, s.engine = .applying e targets)
        ∧ t.store.applicationCounter = s.store.applicationCounter + 1)
    ∨ (((∃ again, s.pending.head? = some (.restore again))
          ∨ ∃ deasserted, s.pending.head? = some (.powerUp deasserted))
        ∧ signatureOk s.store = false ∧ t.store.applicationCounter = 0)
end

