-- ==== Sys2Proof/Laws/State.lean ====
section
/-! SUPPORT. What each named update of the state leaves in each field: one lemma a field, all by rfl, so that
no proof unfolds a record update. -/

namespace Sys2Proof.Machine

/-! ### A store changed -/

@[simp] theorem onStore_store (f : Store → Store) (s : State) :
    (onStore f s).store = f s.store := rfl

@[simp] theorem onStore_ports (f : Store → Store) (s : State) :
    (onStore f s).ports = s.ports := rfl

@[simp] theorem onStore_portsUp (f : Store → Store) (s : State) :
    (onStore f s).portsUp = s.portsUp := rfl

@[simp] theorem onStore_resetLow (f : Store → Store) (s : State) :
    (onStore f s).resetLow = s.resetLow := rfl

@[simp] theorem onStore_arbiterPointer (f : Store → Store) (s : State) :
    (onStore f s).arbiterPointer = s.arbiterPointer := rfl

@[simp] theorem onStore_queue (f : Store → Store) (s : State) :
    (onStore f s).queue = s.queue := rfl

@[simp] theorem onStore_engine (f : Store → Store) (s : State) :
    (onStore f s).engine = s.engine := rfl

@[simp] theorem onStore_captureQueue (f : Store → Store) (s : State) :
    (onStore f s).captureQueue = s.captureQueue := rfl

@[simp] theorem onStore_slots (f : Store → Store) (s : State) :
    (onStore f s).slots = s.slots := rfl

@[simp] theorem onStore_claim (f : Store → Store) (s : State) :
    (onStore f s).claim = s.claim := rfl

@[simp] theorem onStore_reopen (f : Store → Store) (s : State) :
    (onStore f s).reopen = s.reopen := rfl

@[simp] theorem onStore_lineHistory (f : Store → Store) (s : State) :
    (onStore f s).lineHistory = s.lineHistory := rfl

@[simp] theorem onStore_inputs (f : Store → Store) (s : State) :
    (onStore f s).inputs = s.inputs := rfl

@[simp] theorem onStore_converterPointer (f : Store → Store) (s : State) :
    (onStore f s).converterPointer = s.converterPointer := rfl

@[simp] theorem onStore_recognizer (f : Store → Store) (s : State) :
    (onStore f s).recognizer = s.recognizer := rfl

@[simp] theorem onStore_latch (f : Store → Store) (s : State) :
    (onStore f s).latch = s.latch := rfl

@[simp] theorem onStore_closeState (f : Store → Store) (s : State) :
    (onStore f s).closeState = s.closeState := rfl

@[simp] theorem onStore_currentClose (f : Store → Store) (s : State) :
    (onStore f s).currentClose = s.currentClose := rfl

@[simp] theorem onStore_doneOwed (f : Store → Store) (s : State) :
    (onStore f s).doneOwed = s.doneOwed := rfl

@[simp] theorem onStore_building (f : Store → Store) (s : State) :
    (onStore f s).building = s.building := rfl

@[simp] theorem onStore_accumulators (f : Store → Store) (s : State) :
    (onStore f s).accumulators = s.accumulators := rfl

@[simp] theorem onStore_intervalPartial (f : Store → Store) (s : State) :
    (onStore f s).intervalPartial = s.intervalPartial := rfl

@[simp] theorem onStore_prescaler (f : Store → Store) (s : State) :
    (onStore f s).prescaler = s.prescaler := rfl

@[simp] theorem onStore_supply (f : Store → Store) (s : State) :
    (onStore f s).supply = s.supply := rfl

@[simp] theorem onStore_pfailAsserted (f : Store → Store) (s : State) :
    (onStore f s).pfailAsserted = s.pfailAsserted := rfl

@[simp] theorem onStore_retainDuration (f : Store → Store) (s : State) :
    (onStore f s).retainDuration = s.retainDuration := rfl

@[simp] theorem onStore_freeIndex (f : Store → Store) (s : State) :
    (onStore f s).freeIndex = s.freeIndex := rfl

@[simp] theorem onStore_pending (f : Store → Store) (s : State) :
    (onStore f s).pending = s.pending := rfl

/-! ### A configuration edit -/

@[simp] theorem onConfiguration_store (f : Store → Store) (s : State) :
    (onConfiguration f s).store = writeSignature (f s.store) := rfl

@[simp] theorem onConfiguration_ports (f : Store → Store) (s : State) :
    (onConfiguration f s).ports = s.ports := rfl

@[simp] theorem onConfiguration_portsUp (f : Store → Store) (s : State) :
    (onConfiguration f s).portsUp = s.portsUp := rfl

@[simp] theorem onConfiguration_resetLow (f : Store → Store) (s : State) :
    (onConfiguration f s).resetLow = s.resetLow := rfl

@[simp] theorem onConfiguration_arbiterPointer (f : Store → Store) (s : State) :
    (onConfiguration f s).arbiterPointer = s.arbiterPointer := rfl

@[simp] theorem onConfiguration_queue (f : Store → Store) (s : State) :
    (onConfiguration f s).queue = s.queue := rfl

@[simp] theorem onConfiguration_engine (f : Store → Store) (s : State) :
    (onConfiguration f s).engine = s.engine := rfl

@[simp] theorem onConfiguration_captureQueue (f : Store → Store) (s : State) :
    (onConfiguration f s).captureQueue = s.captureQueue := rfl

@[simp] theorem onConfiguration_slots (f : Store → Store) (s : State) :
    (onConfiguration f s).slots = s.slots := rfl

@[simp] theorem onConfiguration_claim (f : Store → Store) (s : State) :
    (onConfiguration f s).claim = s.claim := rfl

@[simp] theorem onConfiguration_reopen (f : Store → Store) (s : State) :
    (onConfiguration f s).reopen = s.reopen := rfl

@[simp] theorem onConfiguration_lineHistory (f : Store → Store) (s : State) :
    (onConfiguration f s).lineHistory = s.lineHistory := rfl

@[simp] theorem onConfiguration_inputs (f : Store → Store) (s : State) :
    (onConfiguration f s).inputs = s.inputs := rfl

@[simp] theorem onConfiguration_converterPointer (f : Store → Store) (s : State) :
    (onConfiguration f s).converterPointer = s.converterPointer := rfl

@[simp] theorem onConfiguration_recognizer (f : Store → Store) (s : State) :
    (onConfiguration f s).recognizer = s.recognizer := rfl

@[simp] theorem onConfiguration_latch (f : Store → Store) (s : State) :
    (onConfiguration f s).latch = s.latch := rfl

@[simp] theorem onConfiguration_closeState (f : Store → Store) (s : State) :
    (onConfiguration f s).closeState = s.closeState := rfl

@[simp] theorem onConfiguration_currentClose (f : Store → Store) (s : State) :
    (onConfiguration f s).currentClose = s.currentClose := rfl

@[simp] theorem onConfiguration_doneOwed (f : Store → Store) (s : State) :
    (onConfiguration f s).doneOwed = s.doneOwed := rfl

@[simp] theorem onConfiguration_building (f : Store → Store) (s : State) :
    (onConfiguration f s).building = s.building := rfl

@[simp] theorem onConfiguration_accumulators (f : Store → Store) (s : State) :
    (onConfiguration f s).accumulators = s.accumulators := rfl

@[simp] theorem onConfiguration_intervalPartial (f : Store → Store) (s : State) :
    (onConfiguration f s).intervalPartial = s.intervalPartial := rfl

@[simp] theorem onConfiguration_prescaler (f : Store → Store) (s : State) :
    (onConfiguration f s).prescaler = s.prescaler := rfl

@[simp] theorem onConfiguration_supply (f : Store → Store) (s : State) :
    (onConfiguration f s).supply = s.supply := rfl

@[simp] theorem onConfiguration_pfailAsserted (f : Store → Store) (s : State) :
    (onConfiguration f s).pfailAsserted = s.pfailAsserted := rfl

@[simp] theorem onConfiguration_retainDuration (f : Store → Store) (s : State) :
    (onConfiguration f s).retainDuration = s.retainDuration := rfl

@[simp] theorem onConfiguration_freeIndex (f : Store → Store) (s : State) :
    (onConfiguration f s).freeIndex = s.freeIndex := rfl

@[simp] theorem onConfiguration_pending (f : Store → Store) (s : State) :
    (onConfiguration f s).pending = s.pending := rfl

/-! ### A signature written -/

@[simp] theorem writeSignature_quantities (st : Store) :
    (writeSignature st).quantities = st.quantities := rfl

@[simp] theorem writeSignature_registers (st : Store) :
    (writeSignature st).registers = st.registers := rfl

@[simp] theorem writeSignature_rights (st : Store) :
    (writeSignature st).rights = st.rights := rfl

@[simp] theorem writeSignature_pulseDefs (st : Store) :
    (writeSignature st).pulseDefs = st.pulseDefs := rfl

@[simp] theorem writeSignature_pulseCounts (st : Store) :
    (writeSignature st).pulseCounts = st.pulseCounts := rfl

@[simp] theorem writeSignature_sourceMode (st : Store) :
    (writeSignature st).sourceMode = st.sourceMode := rfl

@[simp] theorem writeSignature_activeTariff (st : Store) :
    (writeSignature st).activeTariff = st.activeTariff := rfl

@[simp] theorem writeSignature_closeOptions (st : Store) :
    (writeSignature st).closeOptions = st.closeOptions := rfl

@[simp] theorem writeSignature_channels (st : Store) :
    (writeSignature st).channels = st.channels := rfl

@[simp] theorem writeSignature_intervalIndex (st : Store) :
    (writeSignature st).intervalIndex = st.intervalIndex := rfl

@[simp] theorem writeSignature_log (st : Store) :
    (writeSignature st).log = st.log := rfl

@[simp] theorem writeSignature_periodNumber (st : Store) :
    (writeSignature st).periodNumber = st.periodNumber := rfl

@[simp] theorem writeSignature_periodDuration (st : Store) :
    (writeSignature st).periodDuration = st.periodDuration := rfl

@[simp] theorem writeSignature_overdueHeld (st : Store) :
    (writeSignature st).overdueHeld = st.overdueHeld := rfl

@[simp] theorem writeSignature_chains (st : Store) :
    (writeSignature st).chains = st.chains := rfl

@[simp] theorem writeSignature_applicationCounter (st : Store) :
    (writeSignature st).applicationCounter = st.applicationCounter := rfl

@[simp] theorem writeSignature_mode (st : Store) :
    (writeSignature st).mode = st.mode := rfl

@[simp] theorem writeSignature_signature (st : Store) :
    (writeSignature st).signature = signatureOf st := rfl

@[simp] theorem writeSignature_coldMarker (st : Store) :
    (writeSignature st).coldMarker = st.coldMarker := rfl

/-- The signature does not cover itself, so a store whose signature has just been written verifies. -/
theorem signatureOk_writeSignature (st : Store) : signatureOk (writeSignature st) = true := by
  unfold signatureOk
  rw [beq_iff_eq]
  rfl

/-! ### One port changed -/

@[simp] theorem onPort_store (p : PortId) (f : Port → Port) (s : State) :
    (onPort p f s).store = s.store := rfl

@[simp] theorem onPort_ports (p : PortId) (f : Port → Port) (s : State) :
    (onPort p f s).ports = s.ports.set p (f s.ports[p]) := rfl

@[simp] theorem onPort_portsUp (p : PortId) (f : Port → Port) (s : State) :
    (onPort p f s).portsUp = s.portsUp := rfl

@[simp] theorem onPort_resetLow (p : PortId) (f : Port → Port) (s : State) :
    (onPort p f s).resetLow = s.resetLow := rfl

@[simp] theorem onPort_arbiterPointer (p : PortId) (f : Port → Port) (s : State) :
    (onPort p f s).arbiterPointer = s.arbiterPointer := rfl

@[simp] theorem onPort_queue (p : PortId) (f : Port → Port) (s : State) :
    (onPort p f s).queue = s.queue := rfl

@[simp] theorem onPort_engine (p : PortId) (f : Port → Port) (s : State) :
    (onPort p f s).engine = s.engine := rfl

@[simp] theorem onPort_captureQueue (p : PortId) (f : Port → Port) (s : State) :
    (onPort p f s).captureQueue = s.captureQueue := rfl

@[simp] theorem onPort_slots (p : PortId) (f : Port → Port) (s : State) :
    (onPort p f s).slots = s.slots := rfl

@[simp] theorem onPort_claim (p : PortId) (f : Port → Port) (s : State) :
    (onPort p f s).claim = s.claim := rfl

@[simp] theorem onPort_reopen (p : PortId) (f : Port → Port) (s : State) :
    (onPort p f s).reopen = s.reopen := rfl

@[simp] theorem onPort_lineHistory (p : PortId) (f : Port → Port) (s : State) :
    (onPort p f s).lineHistory = s.lineHistory := rfl

@[simp] theorem onPort_inputs (p : PortId) (f : Port → Port) (s : State) :
    (onPort p f s).inputs = s.inputs := rfl

@[simp] theorem onPort_converterPointer (p : PortId) (f : Port → Port) (s : State) :
    (onPort p f s).converterPointer = s.converterPointer := rfl

@[simp] theorem onPort_recognizer (p : PortId) (f : Port → Port) (s : State) :
    (onPort p f s).recognizer = s.recognizer := rfl

@[simp] theorem onPort_latch (p : PortId) (f : Port → Port) (s : State) :
    (onPort p f s).latch = s.latch := rfl

@[simp] theorem onPort_closeState (p : PortId) (f : Port → Port) (s : State) :
    (onPort p f s).closeState = s.closeState := rfl

@[simp] theorem onPort_currentClose (p : PortId) (f : Port → Port) (s : State) :
    (onPort p f s).currentClose = s.currentClose := rfl

@[simp] theorem onPort_doneOwed (p : PortId) (f : Port → Port) (s : State) :
    (onPort p f s).doneOwed = s.doneOwed := rfl

@[simp] theorem onPort_building (p : PortId) (f : Port → Port) (s : State) :
    (onPort p f s).building = s.building := rfl

@[simp] theorem onPort_accumulators (p : PortId) (f : Port → Port) (s : State) :
    (onPort p f s).accumulators = s.accumulators := rfl

@[simp] theorem onPort_intervalPartial (p : PortId) (f : Port → Port) (s : State) :
    (onPort p f s).intervalPartial = s.intervalPartial := rfl

@[simp] theorem onPort_prescaler (p : PortId) (f : Port → Port) (s : State) :
    (onPort p f s).prescaler = s.prescaler := rfl

@[simp] theorem onPort_supply (p : PortId) (f : Port → Port) (s : State) :
    (onPort p f s).supply = s.supply := rfl

@[simp] theorem onPort_pfailAsserted (p : PortId) (f : Port → Port) (s : State) :
    (onPort p f s).pfailAsserted = s.pfailAsserted := rfl

@[simp] theorem onPort_retainDuration (p : PortId) (f : Port → Port) (s : State) :
    (onPort p f s).retainDuration = s.retainDuration := rfl

@[simp] theorem onPort_freeIndex (p : PortId) (f : Port → Port) (s : State) :
    (onPort p f s).freeIndex = s.freeIndex := rfl

@[simp] theorem onPort_pending (p : PortId) (f : Port → Port) (s : State) :
    (onPort p f s).pending = s.pending := rfl

/-! ### One pulse input changed -/

@[simp] theorem onInput_store (n : InputId) (f : InputRun → InputRun) (s : State) :
    (onInput n f s).store = s.store := rfl

@[simp] theorem onInput_ports (n : InputId) (f : InputRun → InputRun) (s : State) :
    (onInput n f s).ports = s.ports := rfl

@[simp] theorem onInput_portsUp (n : InputId) (f : InputRun → InputRun) (s : State) :
    (onInput n f s).portsUp = s.portsUp := rfl

@[simp] theorem onInput_resetLow (n : InputId) (f : InputRun → InputRun) (s : State) :
    (onInput n f s).resetLow = s.resetLow := rfl

@[simp] theorem onInput_arbiterPointer (n : InputId) (f : InputRun → InputRun) (s : State) :
    (onInput n f s).arbiterPointer = s.arbiterPointer := rfl

@[simp] theorem onInput_queue (n : InputId) (f : InputRun → InputRun) (s : State) :
    (onInput n f s).queue = s.queue := rfl

@[simp] theorem onInput_engine (n : InputId) (f : InputRun → InputRun) (s : State) :
    (onInput n f s).engine = s.engine := rfl

@[simp] theorem onInput_captureQueue (n : InputId) (f : InputRun → InputRun) (s : State) :
    (onInput n f s).captureQueue = s.captureQueue := rfl

@[simp] theorem onInput_slots (n : InputId) (f : InputRun → InputRun) (s : State) :
    (onInput n f s).slots = s.slots := rfl

@[simp] theorem onInput_claim (n : InputId) (f : InputRun → InputRun) (s : State) :
    (onInput n f s).claim = s.claim := rfl

@[simp] theorem onInput_reopen (n : InputId) (f : InputRun → InputRun) (s : State) :
    (onInput n f s).reopen = s.reopen := rfl

@[simp] theorem onInput_lineHistory (n : InputId) (f : InputRun → InputRun) (s : State) :
    (onInput n f s).lineHistory = s.lineHistory := rfl

@[simp] theorem onInput_inputs (n : InputId) (f : InputRun → InputRun) (s : State) :
    (onInput n f s).inputs = s.inputs.set n (f s.inputs[n]) := rfl

@[simp] theorem onInput_converterPointer (n : InputId) (f : InputRun → InputRun) (s : State) :
    (onInput n f s).converterPointer = s.converterPointer := rfl

@[simp] theorem onInput_recognizer (n : InputId) (f : InputRun → InputRun) (s : State) :
    (onInput n f s).recognizer = s.recognizer := rfl

@[simp] theorem onInput_latch (n : InputId) (f : InputRun → InputRun) (s : State) :
    (onInput n f s).latch = s.latch := rfl

@[simp] theorem onInput_closeState (n : InputId) (f : InputRun → InputRun) (s : State) :
    (onInput n f s).closeState = s.closeState := rfl

@[simp] theorem onInput_currentClose (n : InputId) (f : InputRun → InputRun) (s : State) :
    (onInput n f s).currentClose = s.currentClose := rfl

@[simp] theorem onInput_doneOwed (n : InputId) (f : InputRun → InputRun) (s : State) :
    (onInput n f s).doneOwed = s.doneOwed := rfl

@[simp] theorem onInput_building (n : InputId) (f : InputRun → InputRun) (s : State) :
    (onInput n f s).building = s.building := rfl

@[simp] theorem onInput_accumulators (n : InputId) (f : InputRun → InputRun) (s : State) :
    (onInput n f s).accumulators = s.accumulators := rfl

@[simp] theorem onInput_intervalPartial (n : InputId) (f : InputRun → InputRun) (s : State) :
    (onInput n f s).intervalPartial = s.intervalPartial := rfl

@[simp] theorem onInput_prescaler (n : InputId) (f : InputRun → InputRun) (s : State) :
    (onInput n f s).prescaler = s.prescaler := rfl

@[simp] theorem onInput_supply (n : InputId) (f : InputRun → InputRun) (s : State) :
    (onInput n f s).supply = s.supply := rfl

@[simp] theorem onInput_pfailAsserted (n : InputId) (f : InputRun → InputRun) (s : State) :
    (onInput n f s).pfailAsserted = s.pfailAsserted := rfl

@[simp] theorem onInput_retainDuration (n : InputId) (f : InputRun → InputRun) (s : State) :
    (onInput n f s).retainDuration = s.retainDuration := rfl

@[simp] theorem onInput_freeIndex (n : InputId) (f : InputRun → InputRun) (s : State) :
    (onInput n f s).freeIndex = s.freeIndex := rfl

@[simp] theorem onInput_pending (n : InputId) (f : InputRun → InputRun) (s : State) :
    (onInput n f s).pending = s.pending := rfl

/-! ### One input's counts changed -/

@[simp] theorem onCount_store_quantities (n : InputId) (f : PulseCount → PulseCount) (s : State) :
    (onCount n f s).store.quantities = s.store.quantities := rfl

@[simp] theorem onCount_store_registers (n : InputId) (f : PulseCount → PulseCount) (s : State) :
    (onCount n f s).store.registers = s.store.registers := rfl

@[simp] theorem onCount_store_rights (n : InputId) (f : PulseCount → PulseCount) (s : State) :
    (onCount n f s).store.rights = s.store.rights := rfl

@[simp] theorem onCount_store_pulseDefs (n : InputId) (f : PulseCount → PulseCount) (s : State) :
    (onCount n f s).store.pulseDefs = s.store.pulseDefs := rfl

@[simp] theorem onCount_store_pulseCounts (n : InputId) (f : PulseCount → PulseCount) (s : State) :
    (onCount n f s).store.pulseCounts = s.store.pulseCounts.set n (f s.store.pulseCounts[n]) := rfl

@[simp] theorem onCount_store_sourceMode (n : InputId) (f : PulseCount → PulseCount) (s : State) :
    (onCount n f s).store.sourceMode = s.store.sourceMode := rfl

@[simp] theorem onCount_store_activeTariff (n : InputId) (f : PulseCount → PulseCount) (s : State) :
    (onCount n f s).store.activeTariff = s.store.activeTariff := rfl

@[simp] theorem onCount_store_closeOptions (n : InputId) (f : PulseCount → PulseCount) (s : State) :
    (onCount n f s).store.closeOptions = s.store.closeOptions := rfl

@[simp] theorem onCount_store_channels (n : InputId) (f : PulseCount → PulseCount) (s : State) :
    (onCount n f s).store.channels = s.store.channels := rfl

@[simp] theorem onCount_store_intervalIndex (n : InputId) (f : PulseCount → PulseCount) (s : State) :
    (onCount n f s).store.intervalIndex = s.store.intervalIndex := rfl

@[simp] theorem onCount_store_log (n : InputId) (f : PulseCount → PulseCount) (s : State) :
    (onCount n f s).store.log = s.store.log := rfl

@[simp] theorem onCount_store_periodNumber (n : InputId) (f : PulseCount → PulseCount) (s : State) :
    (onCount n f s).store.periodNumber = s.store.periodNumber := rfl

@[simp] theorem onCount_store_periodDuration (n : InputId) (f : PulseCount → PulseCount) (s : State) :
    (onCount n f s).store.periodDuration = s.store.periodDuration := rfl

@[simp] theorem onCount_store_overdueHeld (n : InputId) (f : PulseCount → PulseCount) (s : State) :
    (onCount n f s).store.overdueHeld = s.store.overdueHeld := rfl

@[simp] theorem onCount_store_chains (n : InputId) (f : PulseCount → PulseCount) (s : State) :
    (onCount n f s).store.chains = s.store.chains := rfl

@[simp] theorem onCount_store_applicationCounter (n : InputId) (f : PulseCount → PulseCount) (s : State) :
    (onCount n f s).store.applicationCounter = s.store.applicationCounter := rfl

@[simp] theorem onCount_store_mode (n : InputId) (f : PulseCount → PulseCount) (s : State) :
    (onCount n f s).store.mode = s.store.mode := rfl

@[simp] theorem onCount_store_signature (n : InputId) (f : PulseCount → PulseCount) (s : State) :
    (onCount n f s).store.signature = s.store.signature := rfl

@[simp] theorem onCount_store_coldMarker (n : InputId) (f : PulseCount → PulseCount) (s : State) :
    (onCount n f s).store.coldMarker = s.store.coldMarker := rfl

@[simp] theorem onCount_ports (n : InputId) (f : PulseCount → PulseCount) (s : State) :
    (onCount n f s).ports = s.ports := rfl

@[simp] theorem onCount_portsUp (n : InputId) (f : PulseCount → PulseCount) (s : State) :
    (onCount n f s).portsUp = s.portsUp := rfl

@[simp] theorem onCount_resetLow (n : InputId) (f : PulseCount → PulseCount) (s : State) :
    (onCount n f s).resetLow = s.resetLow := rfl

@[simp] theorem onCount_arbiterPointer (n : InputId) (f : PulseCount → PulseCount) (s : State) :
    (onCount n f s).arbiterPointer = s.arbiterPointer := rfl

@[simp] theorem onCount_queue (n : InputId) (f : PulseCount → PulseCount) (s : State) :
    (onCount n f s).queue = s.queue := rfl

@[simp] theorem onCount_engine (n : InputId) (f : PulseCount → PulseCount) (s : State) :
    (onCount n f s).engine = s.engine := rfl

@[simp] theorem onCount_captureQueue (n : InputId) (f : PulseCount → PulseCount) (s : State) :
    (onCount n f s).captureQueue = s.captureQueue := rfl

@[simp] theorem onCount_slots (n : InputId) (f : PulseCount → PulseCount) (s : State) :
    (onCount n f s).slots = s.slots := rfl

@[simp] theorem onCount_claim (n : InputId) (f : PulseCount → PulseCount) (s : State) :
    (onCount n f s).claim = s.claim := rfl

@[simp] theorem onCount_reopen (n : InputId) (f : PulseCount → PulseCount) (s : State) :
    (onCount n f s).reopen = s.reopen := rfl

@[simp] theorem onCount_lineHistory (n : InputId) (f : PulseCount → PulseCount) (s : State) :
    (onCount n f s).lineHistory = s.lineHistory := rfl

@[simp] theorem onCount_inputs (n : InputId) (f : PulseCount → PulseCount) (s : State) :
    (onCount n f s).inputs = s.inputs := rfl

@[simp] theorem onCount_converterPointer (n : InputId) (f : PulseCount → PulseCount) (s : State) :
    (onCount n f s).converterPointer = s.converterPointer := rfl

@[simp] theorem onCount_recognizer (n : InputId) (f : PulseCount → PulseCount) (s : State) :
    (onCount n f s).recognizer = s.recognizer := rfl

@[simp] theorem onCount_latch (n : InputId) (f : PulseCount → PulseCount) (s : State) :
    (onCount n f s).latch = s.latch := rfl

@[simp] theorem onCount_closeState (n : InputId) (f : PulseCount → PulseCount) (s : State) :
    (onCount n f s).closeState = s.closeState := rfl

@[simp] theorem onCount_currentClose (n : InputId) (f : PulseCount → PulseCount) (s : State) :
    (onCount n f s).currentClose = s.currentClose := rfl

@[simp] theorem onCount_doneOwed (n : InputId) (f : PulseCount → PulseCount) (s : State) :
    (onCount n f s).doneOwed = s.doneOwed := rfl

@[simp] theorem onCount_building (n : InputId) (f : PulseCount → PulseCount) (s : State) :
    (onCount n f s).building = s.building := rfl

@[simp] theorem onCount_accumulators (n : InputId) (f : PulseCount → PulseCount) (s : State) :
    (onCount n f s).accumulators = s.accumulators := rfl

@[simp] theorem onCount_intervalPartial (n : InputId) (f : PulseCount → PulseCount) (s : State) :
    (onCount n f s).intervalPartial = s.intervalPartial := rfl

@[simp] theorem onCount_prescaler (n : InputId) (f : PulseCount → PulseCount) (s : State) :
    (onCount n f s).prescaler = s.prescaler := rfl

@[simp] theorem onCount_supply (n : InputId) (f : PulseCount → PulseCount) (s : State) :
    (onCount n f s).supply = s.supply := rfl

@[simp] theorem onCount_pfailAsserted (n : InputId) (f : PulseCount → PulseCount) (s : State) :
    (onCount n f s).pfailAsserted = s.pfailAsserted := rfl

@[simp] theorem onCount_retainDuration (n : InputId) (f : PulseCount → PulseCount) (s : State) :
    (onCount n f s).retainDuration = s.retainDuration := rfl

@[simp] theorem onCount_freeIndex (n : InputId) (f : PulseCount → PulseCount) (s : State) :
    (onCount n f s).freeIndex = s.freeIndex := rfl

@[simp] theorem onCount_pending (n : InputId) (f : PulseCount → PulseCount) (s : State) :
    (onCount n f s).pending = s.pending := rfl

/-! ### One register written -/

@[simp] theorem setRegister_store_quantities (i : RegSlot) (r : RegisterRec) (s : State) :
    (setRegister i r s).store.quantities = s.store.quantities := rfl

@[simp] theorem setRegister_store_registers (i : RegSlot) (r : RegisterRec) (s : State) :
    (setRegister i r s).store.registers = s.store.registers.set i r := rfl

@[simp] theorem setRegister_store_rights (i : RegSlot) (r : RegisterRec) (s : State) :
    (setRegister i r s).store.rights = s.store.rights := rfl

@[simp] theorem setRegister_store_pulseDefs (i : RegSlot) (r : RegisterRec) (s : State) :
    (setRegister i r s).store.pulseDefs = s.store.pulseDefs := rfl

@[simp] theorem setRegister_store_pulseCounts (i : RegSlot) (r : RegisterRec) (s : State) :
    (setRegister i r s).store.pulseCounts = s.store.pulseCounts := rfl

@[simp] theorem setRegister_store_sourceMode (i : RegSlot) (r : RegisterRec) (s : State) :
    (setRegister i r s).store.sourceMode = s.store.sourceMode := rfl

@[simp] theorem setRegister_store_activeTariff (i : RegSlot) (r : RegisterRec) (s : State) :
    (setRegister i r s).store.activeTariff = s.store.activeTariff := rfl

@[simp] theorem setRegister_store_closeOptions (i : RegSlot) (r : RegisterRec) (s : State) :
    (setRegister i r s).store.closeOptions = s.store.closeOptions := rfl

@[simp] theorem setRegister_store_channels (i : RegSlot) (r : RegisterRec) (s : State) :
    (setRegister i r s).store.channels = s.store.channels := rfl

@[simp] theorem setRegister_store_intervalIndex (i : RegSlot) (r : RegisterRec) (s : State) :
    (setRegister i r s).store.intervalIndex = s.store.intervalIndex := rfl

@[simp] theorem setRegister_store_log (i : RegSlot) (r : RegisterRec) (s : State) :
    (setRegister i r s).store.log = s.store.log := rfl

@[simp] theorem setRegister_store_periodNumber (i : RegSlot) (r : RegisterRec) (s : State) :
    (setRegister i r s).store.periodNumber = s.store.periodNumber := rfl

@[simp] theorem setRegister_store_periodDuration (i : RegSlot) (r : RegisterRec) (s : State) :
    (setRegister i r s).store.periodDuration = s.store.periodDuration := rfl

@[simp] theorem setRegister_store_overdueHeld (i : RegSlot) (r : RegisterRec) (s : State) :
    (setRegister i r s).store.overdueHeld = s.store.overdueHeld := rfl

@[simp] theorem setRegister_store_chains (i : RegSlot) (r : RegisterRec) (s : State) :
    (setRegister i r s).store.chains = s.store.chains := rfl

@[simp] theorem setRegister_store_applicationCounter (i : RegSlot) (r : RegisterRec) (s : State) :
    (setRegister i r s).store.applicationCounter = s.store.applicationCounter := rfl

@[simp] theorem setRegister_store_mode (i : RegSlot) (r : RegisterRec) (s : State) :
    (setRegister i r s).store.mode = s.store.mode := rfl

@[simp] theorem setRegister_store_signature (i : RegSlot) (r : RegisterRec) (s : State) :
    (setRegister i r s).store.signature = s.store.signature := rfl

@[simp] theorem setRegister_store_coldMarker (i : RegSlot) (r : RegisterRec) (s : State) :
    (setRegister i r s).store.coldMarker = s.store.coldMarker := rfl

@[simp] theorem setRegister_ports (i : RegSlot) (r : RegisterRec) (s : State) :
    (setRegister i r s).ports = s.ports := rfl

@[simp] theorem setRegister_portsUp (i : RegSlot) (r : RegisterRec) (s : State) :
    (setRegister i r s).portsUp = s.portsUp := rfl

@[simp] theorem setRegister_resetLow (i : RegSlot) (r : RegisterRec) (s : State) :
    (setRegister i r s).resetLow = s.resetLow := rfl

@[simp] theorem setRegister_arbiterPointer (i : RegSlot) (r : RegisterRec) (s : State) :
    (setRegister i r s).arbiterPointer = s.arbiterPointer := rfl

@[simp] theorem setRegister_queue (i : RegSlot) (r : RegisterRec) (s : State) :
    (setRegister i r s).queue = s.queue := rfl

@[simp] theorem setRegister_engine (i : RegSlot) (r : RegisterRec) (s : State) :
    (setRegister i r s).engine = s.engine := rfl

@[simp] theorem setRegister_captureQueue (i : RegSlot) (r : RegisterRec) (s : State) :
    (setRegister i r s).captureQueue = s.captureQueue := rfl

@[simp] theorem setRegister_slots (i : RegSlot) (r : RegisterRec) (s : State) :
    (setRegister i r s).slots = s.slots := rfl

@[simp] theorem setRegister_claim (i : RegSlot) (r : RegisterRec) (s : State) :
    (setRegister i r s).claim = s.claim := rfl

@[simp] theorem setRegister_reopen (i : RegSlot) (r : RegisterRec) (s : State) :
    (setRegister i r s).reopen = s.reopen := rfl

@[simp] theorem setRegister_lineHistory (i : RegSlot) (r : RegisterRec) (s : State) :
    (setRegister i r s).lineHistory = s.lineHistory := rfl

@[simp] theorem setRegister_inputs (i : RegSlot) (r : RegisterRec) (s : State) :
    (setRegister i r s).inputs = s.inputs := rfl

@[simp] theorem setRegister_converterPointer (i : RegSlot) (r : RegisterRec) (s : State) :
    (setRegister i r s).converterPointer = s.converterPointer := rfl

@[simp] theorem setRegister_recognizer (i : RegSlot) (r : RegisterRec) (s : State) :
    (setRegister i r s).recognizer = s.recognizer := rfl

@[simp] theorem setRegister_latch (i : RegSlot) (r : RegisterRec) (s : State) :
    (setRegister i r s).latch = s.latch := rfl

@[simp] theorem setRegister_closeState (i : RegSlot) (r : RegisterRec) (s : State) :
    (setRegister i r s).closeState = s.closeState := rfl

@[simp] theorem setRegister_currentClose (i : RegSlot) (r : RegisterRec) (s : State) :
    (setRegister i r s).currentClose = s.currentClose := rfl

@[simp] theorem setRegister_doneOwed (i : RegSlot) (r : RegisterRec) (s : State) :
    (setRegister i r s).doneOwed = s.doneOwed := rfl

@[simp] theorem setRegister_building (i : RegSlot) (r : RegisterRec) (s : State) :
    (setRegister i r s).building = s.building := rfl

@[simp] theorem setRegister_accumulators (i : RegSlot) (r : RegisterRec) (s : State) :
    (setRegister i r s).accumulators = s.accumulators := rfl

@[simp] theorem setRegister_intervalPartial (i : RegSlot) (r : RegisterRec) (s : State) :
    (setRegister i r s).intervalPartial = s.intervalPartial := rfl

@[simp] theorem setRegister_prescaler (i : RegSlot) (r : RegisterRec) (s : State) :
    (setRegister i r s).prescaler = s.prescaler := rfl

@[simp] theorem setRegister_supply (i : RegSlot) (r : RegisterRec) (s : State) :
    (setRegister i r s).supply = s.supply := rfl

@[simp] theorem setRegister_pfailAsserted (i : RegSlot) (r : RegisterRec) (s : State) :
    (setRegister i r s).pfailAsserted = s.pfailAsserted := rfl

@[simp] theorem setRegister_retainDuration (i : RegSlot) (r : RegisterRec) (s : State) :
    (setRegister i r s).retainDuration = s.retainDuration := rfl

@[simp] theorem setRegister_freeIndex (i : RegSlot) (r : RegisterRec) (s : State) :
    (setRegister i r s).freeIndex = s.freeIndex := rfl

@[simp] theorem setRegister_pending (i : RegSlot) (r : RegisterRec) (s : State) :
    (setRegister i r s).pending = s.pending := rfl

/-! ### One register written with its check word -/

@[simp] theorem putRegister_store_quantities (i : RegSlot) (r : RegisterRec) (s : State) :
    (putRegister i r s).store.quantities = s.store.quantities := rfl

@[simp] theorem putRegister_store_registers (i : RegSlot) (r : RegisterRec) (s : State) :
    (putRegister i r s).store.registers = s.store.registers.set i
      { r with check := registerCheck i (scaleOf s r.quantity) r } := rfl

@[simp] theorem putRegister_store_rights (i : RegSlot) (r : RegisterRec) (s : State) :
    (putRegister i r s).store.rights = s.store.rights := rfl

@[simp] theorem putRegister_store_pulseDefs (i : RegSlot) (r : RegisterRec) (s : State) :
    (putRegister i r s).store.pulseDefs = s.store.pulseDefs := rfl

@[simp] theorem putRegister_store_pulseCounts (i : RegSlot) (r : RegisterRec) (s : State) :
    (putRegister i r s).store.pulseCounts = s.store.pulseCounts := rfl

@[simp] theorem putRegister_store_sourceMode (i : RegSlot) (r : RegisterRec) (s : State) :
    (putRegister i r s).store.sourceMode = s.store.sourceMode := rfl

@[simp] theorem putRegister_store_activeTariff (i : RegSlot) (r : RegisterRec) (s : State) :
    (putRegister i r s).store.activeTariff = s.store.activeTariff := rfl

@[simp] theorem putRegister_store_closeOptions (i : RegSlot) (r : RegisterRec) (s : State) :
    (putRegister i r s).store.closeOptions = s.store.closeOptions := rfl

@[simp] theorem putRegister_store_channels (i : RegSlot) (r : RegisterRec) (s : State) :
    (putRegister i r s).store.channels = s.store.channels := rfl

@[simp] theorem putRegister_store_intervalIndex (i : RegSlot) (r : RegisterRec) (s : State) :
    (putRegister i r s).store.intervalIndex = s.store.intervalIndex := rfl

@[simp] theorem putRegister_store_log (i : RegSlot) (r : RegisterRec) (s : State) :
    (putRegister i r s).store.log = s.store.log := rfl

@[simp] theorem putRegister_store_periodNumber (i : RegSlot) (r : RegisterRec) (s : State) :
    (putRegister i r s).store.periodNumber = s.store.periodNumber := rfl

@[simp] theorem putRegister_store_periodDuration (i : RegSlot) (r : RegisterRec) (s : State) :
    (putRegister i r s).store.periodDuration = s.store.periodDuration := rfl

@[simp] theorem putRegister_store_overdueHeld (i : RegSlot) (r : RegisterRec) (s : State) :
    (putRegister i r s).store.overdueHeld = s.store.overdueHeld := rfl

@[simp] theorem putRegister_store_chains (i : RegSlot) (r : RegisterRec) (s : State) :
    (putRegister i r s).store.chains = s.store.chains := rfl

@[simp] theorem putRegister_store_applicationCounter (i : RegSlot) (r : RegisterRec) (s : State) :
    (putRegister i r s).store.applicationCounter = s.store.applicationCounter := rfl

@[simp] theorem putRegister_store_mode (i : RegSlot) (r : RegisterRec) (s : State) :
    (putRegister i r s).store.mode = s.store.mode := rfl

@[simp] theorem putRegister_store_signature (i : RegSlot) (r : RegisterRec) (s : State) :
    (putRegister i r s).store.signature = s.store.signature := rfl

@[simp] theorem putRegister_store_coldMarker (i : RegSlot) (r : RegisterRec) (s : State) :
    (putRegister i r s).store.coldMarker = s.store.coldMarker := rfl

@[simp] theorem putRegister_ports (i : RegSlot) (r : RegisterRec) (s : State) :
    (putRegister i r s).ports = s.ports := rfl

@[simp] theorem putRegister_portsUp (i : RegSlot) (r : RegisterRec) (s : State) :
    (putRegister i r s).portsUp = s.portsUp := rfl

@[simp] theorem putRegister_resetLow (i : RegSlot) (r : RegisterRec) (s : State) :
    (putRegister i r s).resetLow = s.resetLow := rfl

@[simp] theorem putRegister_arbiterPointer (i : RegSlot) (r : RegisterRec) (s : State) :
    (putRegister i r s).arbiterPointer = s.arbiterPointer := rfl

@[simp] theorem putRegister_queue (i : RegSlot) (r : RegisterRec) (s : State) :
    (putRegister i r s).queue = s.queue := rfl

@[simp] theorem putRegister_engine (i : RegSlot) (r : RegisterRec) (s : State) :
    (putRegister i r s).engine = s.engine := rfl

@[simp] theorem putRegister_captureQueue (i : RegSlot) (r : RegisterRec) (s : State) :
    (putRegister i r s).captureQueue = s.captureQueue := rfl

@[simp] theorem putRegister_slots (i : RegSlot) (r : RegisterRec) (s : State) :
    (putRegister i r s).slots = s.slots := rfl

@[simp] theorem putRegister_claim (i : RegSlot) (r : RegisterRec) (s : State) :
    (putRegister i r s).claim = s.claim := rfl

@[simp] theorem putRegister_reopen (i : RegSlot) (r : RegisterRec) (s : State) :
    (putRegister i r s).reopen = s.reopen := rfl

@[simp] theorem putRegister_lineHistory (i : RegSlot) (r : RegisterRec) (s : State) :
    (putRegister i r s).lineHistory = s.lineHistory := rfl

@[simp] theorem putRegister_inputs (i : RegSlot) (r : RegisterRec) (s : State) :
    (putRegister i r s).inputs = s.inputs := rfl

@[simp] theorem putRegister_converterPointer (i : RegSlot) (r : RegisterRec) (s : State) :
    (putRegister i r s).converterPointer = s.converterPointer := rfl

@[simp] theorem putRegister_recognizer (i : RegSlot) (r : RegisterRec) (s : State) :
    (putRegister i r s).recognizer = s.recognizer := rfl

@[simp] theorem putRegister_latch (i : RegSlot) (r : RegisterRec) (s : State) :
    (putRegister i r s).latch = s.latch := rfl

@[simp] theorem putRegister_closeState (i : RegSlot) (r : RegisterRec) (s : State) :
    (putRegister i r s).closeState = s.closeState := rfl

@[simp] theorem putRegister_currentClose (i : RegSlot) (r : RegisterRec) (s : State) :
    (putRegister i r s).currentClose = s.currentClose := rfl

@[simp] theorem putRegister_doneOwed (i : RegSlot) (r : RegisterRec) (s : State) :
    (putRegister i r s).doneOwed = s.doneOwed := rfl

@[simp] theorem putRegister_building (i : RegSlot) (r : RegisterRec) (s : State) :
    (putRegister i r s).building = s.building := rfl

@[simp] theorem putRegister_accumulators (i : RegSlot) (r : RegisterRec) (s : State) :
    (putRegister i r s).accumulators = s.accumulators := rfl

@[simp] theorem putRegister_intervalPartial (i : RegSlot) (r : RegisterRec) (s : State) :
    (putRegister i r s).intervalPartial = s.intervalPartial := rfl

@[simp] theorem putRegister_prescaler (i : RegSlot) (r : RegisterRec) (s : State) :
    (putRegister i r s).prescaler = s.prescaler := rfl

@[simp] theorem putRegister_supply (i : RegSlot) (r : RegisterRec) (s : State) :
    (putRegister i r s).supply = s.supply := rfl

@[simp] theorem putRegister_pfailAsserted (i : RegSlot) (r : RegisterRec) (s : State) :
    (putRegister i r s).pfailAsserted = s.pfailAsserted := rfl

@[simp] theorem putRegister_retainDuration (i : RegSlot) (r : RegisterRec) (s : State) :
    (putRegister i r s).retainDuration = s.retainDuration := rfl

@[simp] theorem putRegister_freeIndex (i : RegSlot) (r : RegisterRec) (s : State) :
    (putRegister i r s).freeIndex = s.freeIndex := rfl

@[simp] theorem putRegister_pending (i : RegSlot) (r : RegisterRec) (s : State) :
    (putRegister i r s).pending = s.pending := rfl

/-! ### One chain changed -/

@[simp] theorem onChain_store_quantities (f : ChainFn) (g : Chain → Chain) (s : State) :
    (onChain f g s).store.quantities = s.store.quantities := rfl

@[simp] theorem onChain_store_registers (f : ChainFn) (g : Chain → Chain) (s : State) :
    (onChain f g s).store.registers = s.store.registers := rfl

@[simp] theorem onChain_store_rights (f : ChainFn) (g : Chain → Chain) (s : State) :
    (onChain f g s).store.rights = s.store.rights := rfl

@[simp] theorem onChain_store_pulseDefs (f : ChainFn) (g : Chain → Chain) (s : State) :
    (onChain f g s).store.pulseDefs = s.store.pulseDefs := rfl

@[simp] theorem onChain_store_pulseCounts (f : ChainFn) (g : Chain → Chain) (s : State) :
    (onChain f g s).store.pulseCounts = s.store.pulseCounts := rfl

@[simp] theorem onChain_store_sourceMode (f : ChainFn) (g : Chain → Chain) (s : State) :
    (onChain f g s).store.sourceMode = s.store.sourceMode := rfl

@[simp] theorem onChain_store_activeTariff (f : ChainFn) (g : Chain → Chain) (s : State) :
    (onChain f g s).store.activeTariff = s.store.activeTariff := rfl

@[simp] theorem onChain_store_closeOptions (f : ChainFn) (g : Chain → Chain) (s : State) :
    (onChain f g s).store.closeOptions = s.store.closeOptions := rfl

@[simp] theorem onChain_store_channels (f : ChainFn) (g : Chain → Chain) (s : State) :
    (onChain f g s).store.channels = s.store.channels := rfl

@[simp] theorem onChain_store_intervalIndex (f : ChainFn) (g : Chain → Chain) (s : State) :
    (onChain f g s).store.intervalIndex = s.store.intervalIndex := rfl

@[simp] theorem onChain_store_log (f : ChainFn) (g : Chain → Chain) (s : State) :
    (onChain f g s).store.log = s.store.log := rfl

@[simp] theorem onChain_store_periodNumber (f : ChainFn) (g : Chain → Chain) (s : State) :
    (onChain f g s).store.periodNumber = s.store.periodNumber := rfl

@[simp] theorem onChain_store_periodDuration (f : ChainFn) (g : Chain → Chain) (s : State) :
    (onChain f g s).store.periodDuration = s.store.periodDuration := rfl

@[simp] theorem onChain_store_overdueHeld (f : ChainFn) (g : Chain → Chain) (s : State) :
    (onChain f g s).store.overdueHeld = s.store.overdueHeld := rfl

@[simp] theorem onChain_store_chains (f : ChainFn) (g : Chain → Chain) (s : State) :
    (onChain f g s).store.chains = withChain s.store.chains f (g (chainOf s.store.chains f)) := rfl

@[simp] theorem onChain_store_applicationCounter (f : ChainFn) (g : Chain → Chain) (s : State) :
    (onChain f g s).store.applicationCounter = s.store.applicationCounter := rfl

@[simp] theorem onChain_store_mode (f : ChainFn) (g : Chain → Chain) (s : State) :
    (onChain f g s).store.mode = s.store.mode := rfl

@[simp] theorem onChain_store_signature (f : ChainFn) (g : Chain → Chain) (s : State) :
    (onChain f g s).store.signature = s.store.signature := rfl

@[simp] theorem onChain_store_coldMarker (f : ChainFn) (g : Chain → Chain) (s : State) :
    (onChain f g s).store.coldMarker = s.store.coldMarker := rfl

@[simp] theorem onChain_ports (f : ChainFn) (g : Chain → Chain) (s : State) :
    (onChain f g s).ports = s.ports := rfl

@[simp] theorem onChain_portsUp (f : ChainFn) (g : Chain → Chain) (s : State) :
    (onChain f g s).portsUp = s.portsUp := rfl

@[simp] theorem onChain_resetLow (f : ChainFn) (g : Chain → Chain) (s : State) :
    (onChain f g s).resetLow = s.resetLow := rfl

@[simp] theorem onChain_arbiterPointer (f : ChainFn) (g : Chain → Chain) (s : State) :
    (onChain f g s).arbiterPointer = s.arbiterPointer := rfl

@[simp] theorem onChain_queue (f : ChainFn) (g : Chain → Chain) (s : State) :
    (onChain f g s).queue = s.queue := rfl

@[simp] theorem onChain_engine (f : ChainFn) (g : Chain → Chain) (s : State) :
    (onChain f g s).engine = s.engine := rfl

@[simp] theorem onChain_captureQueue (f : ChainFn) (g : Chain → Chain) (s : State) :
    (onChain f g s).captureQueue = s.captureQueue := rfl

@[simp] theorem onChain_slots (f : ChainFn) (g : Chain → Chain) (s : State) :
    (onChain f g s).slots = s.slots := rfl

@[simp] theorem onChain_claim (f : ChainFn) (g : Chain → Chain) (s : State) :
    (onChain f g s).claim = s.claim := rfl

@[simp] theorem onChain_reopen (f : ChainFn) (g : Chain → Chain) (s : State) :
    (onChain f g s).reopen = s.reopen := rfl

@[simp] theorem onChain_lineHistory (f : ChainFn) (g : Chain → Chain) (s : State) :
    (onChain f g s).lineHistory = s.lineHistory := rfl

@[simp] theorem onChain_inputs (f : ChainFn) (g : Chain → Chain) (s : State) :
    (onChain f g s).inputs = s.inputs := rfl

@[simp] theorem onChain_converterPointer (f : ChainFn) (g : Chain → Chain) (s : State) :
    (onChain f g s).converterPointer = s.converterPointer := rfl

@[simp] theorem onChain_recognizer (f : ChainFn) (g : Chain → Chain) (s : State) :
    (onChain f g s).recognizer = s.recognizer := rfl

@[simp] theorem onChain_latch (f : ChainFn) (g : Chain → Chain) (s : State) :
    (onChain f g s).latch = s.latch := rfl

@[simp] theorem onChain_closeState (f : ChainFn) (g : Chain → Chain) (s : State) :
    (onChain f g s).closeState = s.closeState := rfl

@[simp] theorem onChain_currentClose (f : ChainFn) (g : Chain → Chain) (s : State) :
    (onChain f g s).currentClose = s.currentClose := rfl

@[simp] theorem onChain_doneOwed (f : ChainFn) (g : Chain → Chain) (s : State) :
    (onChain f g s).doneOwed = s.doneOwed := rfl

@[simp] theorem onChain_building (f : ChainFn) (g : Chain → Chain) (s : State) :
    (onChain f g s).building = s.building := rfl

@[simp] theorem onChain_accumulators (f : ChainFn) (g : Chain → Chain) (s : State) :
    (onChain f g s).accumulators = s.accumulators := rfl

@[simp] theorem onChain_intervalPartial (f : ChainFn) (g : Chain → Chain) (s : State) :
    (onChain f g s).intervalPartial = s.intervalPartial := rfl

@[simp] theorem onChain_prescaler (f : ChainFn) (g : Chain → Chain) (s : State) :
    (onChain f g s).prescaler = s.prescaler := rfl

@[simp] theorem onChain_supply (f : ChainFn) (g : Chain → Chain) (s : State) :
    (onChain f g s).supply = s.supply := rfl

@[simp] theorem onChain_pfailAsserted (f : ChainFn) (g : Chain → Chain) (s : State) :
    (onChain f g s).pfailAsserted = s.pfailAsserted := rfl

@[simp] theorem onChain_retainDuration (f : ChainFn) (g : Chain → Chain) (s : State) :
    (onChain f g s).retainDuration = s.retainDuration := rfl

@[simp] theorem onChain_freeIndex (f : ChainFn) (g : Chain → Chain) (s : State) :
    (onChain f g s).freeIndex = s.freeIndex := rfl

@[simp] theorem onChain_pending (f : ChainFn) (g : Chain → Chain) (s : State) :
    (onChain f g s).pending = s.pending := rfl

end Sys2Proof.Machine
end

