-- ==== Sys2Proof/Laws/Notices.lean ====
section
/-! SUPPORT. What raising and offering a notice can do: the notices, ATTN and OVERRUN of ports change and
nothing else, and the law of a notice queue is kept. -/

namespace Sys2Proof.Machine

/-- Reading a vector of records after one has been written. -/
theorem get_set {α : Type} {n : Nat} (v : Vector α n) (i j : Fin n) (x : α) :
    (v.set i x)[j] = if i = j then x else v[j] := by
  show (v.set i.val x)[j.val] = _
  rw [Vector.getElem_set]
  simp only [Fin.ext_iff]
  rfl

@[simp] theorem get_set_self {α : Type} {n : Nat} (v : Vector α n) (i : Fin n) (x : α) :
    (v.set i x)[i] = x := by rw [get_set, if_pos rfl]

theorem get_set_ne {α : Type} {n : Nat} (v : Vector α n) {i j : Fin n} (h : i ≠ j) (x : α) :
    (v.set i x)[j] = v[j] := by rw [get_set, if_neg h]

theorem onPort_port_self (p : PortId) (f : Port → Port) (s : State) :
    (onPort p f s).ports[p] = f s.ports[p] := get_set_self _ _ _

theorem onPort_port_ne {p q : PortId} (h : p ≠ q) (f : Port → Port) (s : State) :
    (onPort p f s).ports[q] = s.ports[q] := get_set_ne _ h _

/-- A port that a notice may have reached: it differs in its notices, ATTN and OVERRUN only. -/
abbrev NoticedOnly (q q' : Port) : Prop :=
  q' = { q with notices := q'.notices, attn := q'.attn, overrun := q'.overrun }

/-- The law of one notice queue (R153). -/
abbrev WellQueued (q : Port) : Prop := q.notices.length ≤ 8 ∧ q.attn = !q.notices.isEmpty

theorem joinQueue_noticedOnly (n : Notice) (q : Port) : NoticedOnly q (joinQueue n q) := by
  unfold joinQueue; split <;> rfl

theorem joinQueue_wellQueued (n : Notice) (q : Port) (h : WellQueued q) :
    WellQueued (joinQueue n q) := by
  unfold joinQueue
  split
  · refine ⟨?_, ?_⟩
    · simp only [List.length_append, List.length_cons, List.length_nil]; omega
    · cases q.notices <;> rfl
  · exact h

/-! ### One port -/

theorem offer_frame (p : PortId) (n : Notice) (s : State) :
    offer p n s = { s with ports := (offer p n s).ports } := by
  unfold offer; split <;> rfl

/-- What an offer does to its own port. -/
theorem offer_port_self (p : PortId) (n : Notice) (s : State) :
    (offer p n s).ports[p] = if queueing s then joinQueue n s.ports[p] else s.ports[p] := by
  unfold offer
  split
  · exact onPort_port_self p _ s
  · rfl

/-- An offer to one port does not reach another. -/
theorem offer_port_ne {p q : PortId} (h : p ≠ q) (n : Notice) (s : State) :
    (offer p n s).ports[q] = s.ports[q] := by
  unfold offer
  split
  · exact onPort_port_ne h _ s
  · rfl

/-! ### Every port -/

theorem offerMasked_frame (n : Notice) (s : State) (p : PortId) :
    offerMasked n s p = { s with ports := (offerMasked n s p).ports } := by
  unfold offerMasked
  split
  · exact offer_frame p n s
  · rfl

theorem offerMasked_port (n : Notice) (s : State) (p q : PortId) :
    (offerMasked n s p).ports[q] =
      if p = q ∧ maskEnables s.ports[p].mask n.kind = true ∧ queueing s = true then
        joinQueue n s.ports[q]
      else s.ports[q] := by
  unfold offerMasked
  by_cases hm : maskEnables s.ports[p].mask n.kind = true
  · rw [if_pos hm]
    by_cases hpq : p = q
    · subst hpq
      rw [offer_port_self]
      by_cases hq : queueing s = true
      · rw [if_pos hq, if_pos ⟨rfl, hm, hq⟩]
      · rw [if_neg hq, if_neg fun h => hq h.2.2]
    · rw [offer_port_ne hpq, if_neg fun h => hpq h.1]
  · rw [if_neg hm, if_neg fun h => hm h.2.1]

theorem foldl_offerMasked_ports (n : Notice) (ps : List PortId) (s : State) :
    ∃ v, ps.foldl (offerMasked n) s = { s with ports := v } := by
  induction ps generalizing s with
  | nil => exact ⟨s.ports, rfl⟩
  | cons p ps ih =>
    obtain ⟨v, h⟩ := ih { s with ports := (offerMasked n s p).ports }
    exact ⟨v, by rw [List.foldl_cons, offerMasked_frame, h]⟩

/-- Raising a notice changes ports only. -/
theorem raise_frame (n : Notice) (s : State) :
    raise n s = { s with ports := (raise n s).ports } := by
  obtain ⟨v, h⟩ := foldl_offerMasked_ports n [0, 1, 2] s
  have h' : raise n s = { s with ports := v } := h
  rw [h']

theorem queueing_offerMasked (n : Notice) (s : State) (p : PortId) :
    queueing (offerMasked n s p) = queueing s := by
  rw [offerMasked_frame]; rfl

/-- What raising a notice does to each port: it joins the queue where notices are queued and the mask
lets the kind through. -/
theorem raise_port (n : Notice) (s : State) (q : PortId) :
    (raise n s).ports[q] =
      if maskEnables s.ports[q].mask n.kind = true ∧ queueing s = true then
        joinQueue n s.ports[q]
      else s.ports[q] := by
  simp only [raise, List.foldl_cons, List.foldl_nil, offerMasked_port, queueing_offerMasked]
  fin_cases q <;> simp

/-- A notice joins a queue as R153 says. -/
theorem joinQueue_eq_queued (n : Notice) (q : Port) : joinQueue n q = queued n q := rfl

/-- What raising one notice tells a port. -/
theorem raise_port_told (n : Notice) (s : State) (p : PortId) :
    (raise n s).ports[p] = told s [n] p := by
  rw [raise_port, told, joinQueue_eq_queued]
  by_cases hq : s.portsUp = true ∧ s.supply = .runSupply
  · have hq' : queueing s = true := by simp [queueing, hq]
    simp [hq, hq']
  · have hq' : queueing s ≠ true := by simpa [queueing] using hq
    simp [hq, hq']

theorem told_nil (s : State) (p : PortId) : told s [] p = s.ports[p] := by simp [told]

/-- Told one notice and then more is told them all in order. -/
theorem told_cons (n : Notice) (ns : List Notice) (s : State) (p : PortId) :
    told s (n :: ns) p = told (raise n s) ns p := by
  have h1 : (raise n s).portsUp = s.portsUp := by rw [raise_frame]
  have h2 : (raise n s).supply = s.supply := by rw [raise_frame]
  have h3 := raise_port_told n s p
  unfold told at h3 ⊢
  rw [h1, h2, h3]
  split <;> rfl

/-- Telling a port more, in a state that differs for that port by what it has been told already. -/
theorem told_append {s t : State} {a : List Notice} {p : PortId} (hp : t.ports[p] = told s a p)
    (hu : t.portsUp = s.portsUp) (hs : t.supply = s.supply) (b : List Notice) :
    told t b p = told s (a ++ b) p := by
  unfold told at hp ⊢
  rw [hu, hs, hp, List.foldl_append]
  split <;> rfl

/-- What raising notices in order tells a port. -/
theorem foldl_raise_port (ns : List Notice) (s : State) (p : PortId) :
    (ns.foldl (fun s n => raise n s) s).ports[p] = told s ns p := by
  induction ns generalizing s with
  | nil => rw [told_nil]; rfl
  | cons n ns ih => rw [List.foldl_cons, ih, told_cons]

/-- Where no notice is queued, raising one changes nothing. -/
theorem raise_of_not_queueing (n : Notice) (s : State) (h : queueing s = false) :
    raise n s = s := by
  simp [raise, offerMasked, offer, h]

theorem raise_noticedOnly (n : Notice) (s : State) (q : PortId) :
    NoticedOnly s.ports[q] (raise n s).ports[q] := by
  rw [raise_port]
  split
  · exact joinQueue_noticedOnly n _
  · rfl

theorem raise_wellQueued (n : Notice) (s : State) (q : PortId) (h : WellQueued s.ports[q]) :
    WellQueued (raise n s).ports[q] := by
  rw [raise_port]
  split
  · exact joinQueue_wellQueued n _ h
  · exact h

theorem offer_noticedOnly (p : PortId) (n : Notice) (s : State) (q : PortId) :
    NoticedOnly s.ports[q] (offer p n s).ports[q] := by
  by_cases h : p = q
  · subst h
    rw [offer_port_self]
    split
    · exact joinQueue_noticedOnly n _
    · rfl
  · rw [offer_port_ne h]

theorem offer_wellQueued (p : PortId) (n : Notice) (s : State) (q : PortId)
    (h : WellQueued s.ports[q]) : WellQueued (offer p n s).ports[q] := by
  by_cases hp : p = q
  · subst hp
    rw [offer_port_self]
    split
    · exact joinQueue_wellQueued n _ h
    · exact h
  · rw [offer_port_ne hp]; exact h

/-! ### Field by field -/

@[simp] theorem offer_store (p : PortId) (n : Notice) (s : State) :
    (offer p n s).store = s.store := by rw [offer_frame]

@[simp] theorem offer_portsUp (p : PortId) (n : Notice) (s : State) :
    (offer p n s).portsUp = s.portsUp := by rw [offer_frame]

@[simp] theorem offer_resetLow (p : PortId) (n : Notice) (s : State) :
    (offer p n s).resetLow = s.resetLow := by rw [offer_frame]

@[simp] theorem offer_arbiterPointer (p : PortId) (n : Notice) (s : State) :
    (offer p n s).arbiterPointer = s.arbiterPointer := by rw [offer_frame]

@[simp] theorem offer_queue (p : PortId) (n : Notice) (s : State) :
    (offer p n s).queue = s.queue := by rw [offer_frame]

@[simp] theorem offer_engine (p : PortId) (n : Notice) (s : State) :
    (offer p n s).engine = s.engine := by rw [offer_frame]

@[simp] theorem offer_captureQueue (p : PortId) (n : Notice) (s : State) :
    (offer p n s).captureQueue = s.captureQueue := by rw [offer_frame]

@[simp] theorem offer_slots (p : PortId) (n : Notice) (s : State) :
    (offer p n s).slots = s.slots := by rw [offer_frame]

@[simp] theorem offer_claim (p : PortId) (n : Notice) (s : State) :
    (offer p n s).claim = s.claim := by rw [offer_frame]

@[simp] theorem offer_reopen (p : PortId) (n : Notice) (s : State) :
    (offer p n s).reopen = s.reopen := by rw [offer_frame]

@[simp] theorem offer_lineHistory (p : PortId) (n : Notice) (s : State) :
    (offer p n s).lineHistory = s.lineHistory := by rw [offer_frame]

@[simp] theorem offer_inputs (p : PortId) (n : Notice) (s : State) :
    (offer p n s).inputs = s.inputs := by rw [offer_frame]

@[simp] theorem offer_converterPointer (p : PortId) (n : Notice) (s : State) :
    (offer p n s).converterPointer = s.converterPointer := by rw [offer_frame]

@[simp] theorem offer_recognizer (p : PortId) (n : Notice) (s : State) :
    (offer p n s).recognizer = s.recognizer := by rw [offer_frame]

@[simp] theorem offer_latch (p : PortId) (n : Notice) (s : State) :
    (offer p n s).latch = s.latch := by rw [offer_frame]

@[simp] theorem offer_closeState (p : PortId) (n : Notice) (s : State) :
    (offer p n s).closeState = s.closeState := by rw [offer_frame]

@[simp] theorem offer_currentClose (p : PortId) (n : Notice) (s : State) :
    (offer p n s).currentClose = s.currentClose := by rw [offer_frame]

@[simp] theorem offer_doneOwed (p : PortId) (n : Notice) (s : State) :
    (offer p n s).doneOwed = s.doneOwed := by rw [offer_frame]

@[simp] theorem offer_building (p : PortId) (n : Notice) (s : State) :
    (offer p n s).building = s.building := by rw [offer_frame]

@[simp] theorem offer_accumulators (p : PortId) (n : Notice) (s : State) :
    (offer p n s).accumulators = s.accumulators := by rw [offer_frame]

@[simp] theorem offer_intervalPartial (p : PortId) (n : Notice) (s : State) :
    (offer p n s).intervalPartial = s.intervalPartial := by rw [offer_frame]

@[simp] theorem offer_prescaler (p : PortId) (n : Notice) (s : State) :
    (offer p n s).prescaler = s.prescaler := by rw [offer_frame]

@[simp] theorem offer_supply (p : PortId) (n : Notice) (s : State) :
    (offer p n s).supply = s.supply := by rw [offer_frame]

@[simp] theorem offer_pfailAsserted (p : PortId) (n : Notice) (s : State) :
    (offer p n s).pfailAsserted = s.pfailAsserted := by rw [offer_frame]

@[simp] theorem offer_retainDuration (p : PortId) (n : Notice) (s : State) :
    (offer p n s).retainDuration = s.retainDuration := by rw [offer_frame]

@[simp] theorem offer_freeIndex (p : PortId) (n : Notice) (s : State) :
    (offer p n s).freeIndex = s.freeIndex := by rw [offer_frame]

@[simp] theorem offer_pending (p : PortId) (n : Notice) (s : State) :
    (offer p n s).pending = s.pending := by rw [offer_frame]

@[simp] theorem raise_store (n : Notice) (s : State) :
    (raise n s).store = s.store := by rw [raise_frame]

@[simp] theorem raise_portsUp (n : Notice) (s : State) :
    (raise n s).portsUp = s.portsUp := by rw [raise_frame]

@[simp] theorem raise_resetLow (n : Notice) (s : State) :
    (raise n s).resetLow = s.resetLow := by rw [raise_frame]

@[simp] theorem raise_arbiterPointer (n : Notice) (s : State) :
    (raise n s).arbiterPointer = s.arbiterPointer := by rw [raise_frame]

@[simp] theorem raise_queue (n : Notice) (s : State) :
    (raise n s).queue = s.queue := by rw [raise_frame]

@[simp] theorem raise_engine (n : Notice) (s : State) :
    (raise n s).engine = s.engine := by rw [raise_frame]

@[simp] theorem raise_captureQueue (n : Notice) (s : State) :
    (raise n s).captureQueue = s.captureQueue := by rw [raise_frame]

@[simp] theorem raise_slots (n : Notice) (s : State) :
    (raise n s).slots = s.slots := by rw [raise_frame]

@[simp] theorem raise_claim (n : Notice) (s : State) :
    (raise n s).claim = s.claim := by rw [raise_frame]

@[simp] theorem raise_reopen (n : Notice) (s : State) :
    (raise n s).reopen = s.reopen := by rw [raise_frame]

@[simp] theorem raise_lineHistory (n : Notice) (s : State) :
    (raise n s).lineHistory = s.lineHistory := by rw [raise_frame]

@[simp] theorem raise_inputs (n : Notice) (s : State) :
    (raise n s).inputs = s.inputs := by rw [raise_frame]

@[simp] theorem raise_converterPointer (n : Notice) (s : State) :
    (raise n s).converterPointer = s.converterPointer := by rw [raise_frame]

@[simp] theorem raise_recognizer (n : Notice) (s : State) :
    (raise n s).recognizer = s.recognizer := by rw [raise_frame]

@[simp] theorem raise_latch (n : Notice) (s : State) :
    (raise n s).latch = s.latch := by rw [raise_frame]

@[simp] theorem raise_closeState (n : Notice) (s : State) :
    (raise n s).closeState = s.closeState := by rw [raise_frame]

@[simp] theorem raise_currentClose (n : Notice) (s : State) :
    (raise n s).currentClose = s.currentClose := by rw [raise_frame]

@[simp] theorem raise_doneOwed (n : Notice) (s : State) :
    (raise n s).doneOwed = s.doneOwed := by rw [raise_frame]

@[simp] theorem raise_building (n : Notice) (s : State) :
    (raise n s).building = s.building := by rw [raise_frame]

@[simp] theorem raise_accumulators (n : Notice) (s : State) :
    (raise n s).accumulators = s.accumulators := by rw [raise_frame]

@[simp] theorem raise_intervalPartial (n : Notice) (s : State) :
    (raise n s).intervalPartial = s.intervalPartial := by rw [raise_frame]

@[simp] theorem raise_prescaler (n : Notice) (s : State) :
    (raise n s).prescaler = s.prescaler := by rw [raise_frame]

@[simp] theorem raise_supply (n : Notice) (s : State) :
    (raise n s).supply = s.supply := by rw [raise_frame]

@[simp] theorem raise_pfailAsserted (n : Notice) (s : State) :
    (raise n s).pfailAsserted = s.pfailAsserted := by rw [raise_frame]

@[simp] theorem raise_retainDuration (n : Notice) (s : State) :
    (raise n s).retainDuration = s.retainDuration := by rw [raise_frame]

@[simp] theorem raise_freeIndex (n : Notice) (s : State) :
    (raise n s).freeIndex = s.freeIndex := by rw [raise_frame]

@[simp] theorem raise_pending (n : Notice) (s : State) :
    (raise n s).pending = s.pending := by rw [raise_frame]

@[simp] theorem raise_execution (n : Notice) (s : State) (q : Nat) (h : q < 3) :
    (raise n s).ports[q].execution = s.ports[q].execution :=
  show _ = _ from (congrArg Port.execution (raise_noticedOnly n s ⟨q, h⟩) :)

@[simp] theorem offer_execution (p : PortId) (n : Notice) (s : State) (q : Nat) (h : q < 3) :
    (offer p n s).ports[q].execution = s.ports[q].execution :=
  show _ = _ from (congrArg Port.execution (offer_noticedOnly p n s ⟨q, h⟩) :)

@[simp] theorem raise_waiting (n : Notice) (s : State) (q : Nat) (h : q < 3) :
    (raise n s).ports[q].waiting = s.ports[q].waiting :=
  show _ = _ from (congrArg Port.waiting (raise_noticedOnly n s ⟨q, h⟩) :)

@[simp] theorem offer_waiting (p : PortId) (n : Notice) (s : State) (q : Nat) (h : q < 3) :
    (offer p n s).ports[q].waiting = s.ports[q].waiting :=
  show _ = _ from (congrArg Port.waiting (offer_noticedOnly p n s ⟨q, h⟩) :)

@[simp] theorem raise_lastResult (n : Notice) (s : State) (q : Nat) (h : q < 3) :
    (raise n s).ports[q].lastResult = s.ports[q].lastResult :=
  show _ = _ from (congrArg Port.lastResult (raise_noticedOnly n s ⟨q, h⟩) :)

@[simp] theorem offer_lastResult (p : PortId) (n : Notice) (s : State) (q : Nat) (h : q < 3) :
    (offer p n s).ports[q].lastResult = s.ports[q].lastResult :=
  show _ = _ from (congrArg Port.lastResult (offer_noticedOnly p n s ⟨q, h⟩) :)

@[simp] theorem raise_mask (n : Notice) (s : State) (q : Nat) (h : q < 3) :
    (raise n s).ports[q].mask = s.ports[q].mask :=
  show _ = _ from (congrArg Port.mask (raise_noticedOnly n s ⟨q, h⟩) :)

@[simp] theorem offer_mask (p : PortId) (n : Notice) (s : State) (q : Nat) (h : q < 3) :
    (offer p n s).ports[q].mask = s.ports[q].mask :=
  show _ = _ from (congrArg Port.mask (offer_noticedOnly p n s ⟨q, h⟩) :)

@[simp] theorem raise_wire (n : Notice) (s : State) (q : Nat) (h : q < 3) :
    (raise n s).ports[q].wire = s.ports[q].wire :=
  show _ = _ from (congrArg Port.wire (raise_noticedOnly n s ⟨q, h⟩) :)

@[simp] theorem offer_wire (p : PortId) (n : Notice) (s : State) (q : Nat) (h : q < 3) :
    (offer p n s).ports[q].wire = s.ports[q].wire :=
  show _ = _ from (congrArg Port.wire (offer_noticedOnly p n s ⟨q, h⟩) :)

end Sys2Proof.Machine
end

