-- ==== Sys2Proof/Laws/Verification.lean ====
section
/-! SUPPORT. What the verification of check words can do (R15, R16): one register's record and the ports'
notices change, and nothing else; a record that verifies, and every other record, stays as it is. -/

namespace Sys2Proof.Machine

/-- What verification changes. -/
theorem verifyRegister_frame (f : FoundAt) (s : State) (i : RegSlot) :
    verifyRegister f s i = { s with
      ports := (verifyRegister f s i).ports
      store := { s.store with registers := (verifyRegister f s i).store.registers } } := by
  unfold verifyRegister
  dsimp only
  split
  · rfl
  · split
    · rfl
    · rw [raise_frame]; rfl

@[simp] theorem verifyRegister_portsUp (f : FoundAt) (s : State) (i : RegSlot) :
    (verifyRegister f s i).portsUp = s.portsUp := by rw [verifyRegister_frame]

@[simp] theorem verifyRegister_resetLow (f : FoundAt) (s : State) (i : RegSlot) :
    (verifyRegister f s i).resetLow = s.resetLow := by rw [verifyRegister_frame]

@[simp] theorem verifyRegister_arbiterPointer (f : FoundAt) (s : State) (i : RegSlot) :
    (verifyRegister f s i).arbiterPointer = s.arbiterPointer := by rw [verifyRegister_frame]

@[simp] theorem verifyRegister_queue (f : FoundAt) (s : State) (i : RegSlot) :
    (verifyRegister f s i).queue = s.queue := by rw [verifyRegister_frame]

@[simp] theorem verifyRegister_engine (f : FoundAt) (s : State) (i : RegSlot) :
    (verifyRegister f s i).engine = s.engine := by rw [verifyRegister_frame]

@[simp] theorem verifyRegister_captureQueue (f : FoundAt) (s : State) (i : RegSlot) :
    (verifyRegister f s i).captureQueue = s.captureQueue := by rw [verifyRegister_frame]

@[simp] theorem verifyRegister_slots (f : FoundAt) (s : State) (i : RegSlot) :
    (verifyRegister f s i).slots = s.slots := by rw [verifyRegister_frame]

@[simp] theorem verifyRegister_claim (f : FoundAt) (s : State) (i : RegSlot) :
    (verifyRegister f s i).claim = s.claim := by rw [verifyRegister_frame]

@[simp] theorem verifyRegister_reopen (f : FoundAt) (s : State) (i : RegSlot) :
    (verifyRegister f s i).reopen = s.reopen := by rw [verifyRegister_frame]

@[simp] theorem verifyRegister_lineHistory (f : FoundAt) (s : State) (i : RegSlot) :
    (verifyRegister f s i).lineHistory = s.lineHistory := by rw [verifyRegister_frame]

@[simp] theorem verifyRegister_inputs (f : FoundAt) (s : State) (i : RegSlot) :
    (verifyRegister f s i).inputs = s.inputs := by rw [verifyRegister_frame]

@[simp] theorem verifyRegister_converterPointer (f : FoundAt) (s : State) (i : RegSlot) :
    (verifyRegister f s i).converterPointer = s.converterPointer := by rw [verifyRegister_frame]

@[simp] theorem verifyRegister_recognizer (f : FoundAt) (s : State) (i : RegSlot) :
    (verifyRegister f s i).recognizer = s.recognizer := by rw [verifyRegister_frame]

@[simp] theorem verifyRegister_latch (f : FoundAt) (s : State) (i : RegSlot) :
    (verifyRegister f s i).latch = s.latch := by rw [verifyRegister_frame]

@[simp] theorem verifyRegister_closeState (f : FoundAt) (s : State) (i : RegSlot) :
    (verifyRegister f s i).closeState = s.closeState := by rw [verifyRegister_frame]

@[simp] theorem verifyRegister_currentClose (f : FoundAt) (s : State) (i : RegSlot) :
    (verifyRegister f s i).currentClose = s.currentClose := by rw [verifyRegister_frame]

@[simp] theorem verifyRegister_doneOwed (f : FoundAt) (s : State) (i : RegSlot) :
    (verifyRegister f s i).doneOwed = s.doneOwed := by rw [verifyRegister_frame]

@[simp] theorem verifyRegister_building (f : FoundAt) (s : State) (i : RegSlot) :
    (verifyRegister f s i).building = s.building := by rw [verifyRegister_frame]

@[simp] theorem verifyRegister_accumulators (f : FoundAt) (s : State) (i : RegSlot) :
    (verifyRegister f s i).accumulators = s.accumulators := by rw [verifyRegister_frame]

@[simp] theorem verifyRegister_intervalPartial (f : FoundAt) (s : State) (i : RegSlot) :
    (verifyRegister f s i).intervalPartial = s.intervalPartial := by rw [verifyRegister_frame]

@[simp] theorem verifyRegister_prescaler (f : FoundAt) (s : State) (i : RegSlot) :
    (verifyRegister f s i).prescaler = s.prescaler := by rw [verifyRegister_frame]

@[simp] theorem verifyRegister_supply (f : FoundAt) (s : State) (i : RegSlot) :
    (verifyRegister f s i).supply = s.supply := by rw [verifyRegister_frame]

@[simp] theorem verifyRegister_pfailAsserted (f : FoundAt) (s : State) (i : RegSlot) :
    (verifyRegister f s i).pfailAsserted = s.pfailAsserted := by rw [verifyRegister_frame]

@[simp] theorem verifyRegister_retainDuration (f : FoundAt) (s : State) (i : RegSlot) :
    (verifyRegister f s i).retainDuration = s.retainDuration := by rw [verifyRegister_frame]

@[simp] theorem verifyRegister_freeIndex (f : FoundAt) (s : State) (i : RegSlot) :
    (verifyRegister f s i).freeIndex = s.freeIndex := by rw [verifyRegister_frame]

@[simp] theorem verifyRegister_pending (f : FoundAt) (s : State) (i : RegSlot) :
    (verifyRegister f s i).pending = s.pending := by rw [verifyRegister_frame]

@[simp] theorem verifyRegister_store_quantities (f : FoundAt) (s : State) (i : RegSlot) :
    (verifyRegister f s i).store.quantities = s.store.quantities := by rw [verifyRegister_frame]

@[simp] theorem verifyRegister_store_rights (f : FoundAt) (s : State) (i : RegSlot) :
    (verifyRegister f s i).store.rights = s.store.rights := by rw [verifyRegister_frame]

@[simp] theorem verifyRegister_store_pulseDefs (f : FoundAt) (s : State) (i : RegSlot) :
    (verifyRegister f s i).store.pulseDefs = s.store.pulseDefs := by rw [verifyRegister_frame]

@[simp] theorem verifyRegister_store_pulseCounts (f : FoundAt) (s : State) (i : RegSlot) :
    (verifyRegister f s i).store.pulseCounts = s.store.pulseCounts := by rw [verifyRegister_frame]

@[simp] theorem verifyRegister_store_sourceMode (f : FoundAt) (s : State) (i : RegSlot) :
    (verifyRegister f s i).store.sourceMode = s.store.sourceMode := by rw [verifyRegister_frame]

@[simp] theorem verifyRegister_store_activeTariff (f : FoundAt) (s : State) (i : RegSlot) :
    (verifyRegister f s i).store.activeTariff = s.store.activeTariff := by rw [verifyRegister_frame]

@[simp] theorem verifyRegister_store_closeOptions (f : FoundAt) (s : State) (i : RegSlot) :
    (verifyRegister f s i).store.closeOptions = s.store.closeOptions := by rw [verifyRegister_frame]

@[simp] theorem verifyRegister_store_channels (f : FoundAt) (s : State) (i : RegSlot) :
    (verifyRegister f s i).store.channels = s.store.channels := by rw [verifyRegister_frame]

@[simp] theorem verifyRegister_store_intervalIndex (f : FoundAt) (s : State) (i : RegSlot) :
    (verifyRegister f s i).store.intervalIndex = s.store.intervalIndex := by rw [verifyRegister_frame]

@[simp] theorem verifyRegister_store_log (f : FoundAt) (s : State) (i : RegSlot) :
    (verifyRegister f s i).store.log = s.store.log := by rw [verifyRegister_frame]

@[simp] theorem verifyRegister_store_periodNumber (f : FoundAt) (s : State) (i : RegSlot) :
    (verifyRegister f s i).store.periodNumber = s.store.periodNumber := by rw [verifyRegister_frame]

@[simp] theorem verifyRegister_store_periodDuration (f : FoundAt) (s : State) (i : RegSlot) :
    (verifyRegister f s i).store.periodDuration = s.store.periodDuration := by rw [verifyRegister_frame]

@[simp] theorem verifyRegister_store_overdueHeld (f : FoundAt) (s : State) (i : RegSlot) :
    (verifyRegister f s i).store.overdueHeld = s.store.overdueHeld := by rw [verifyRegister_frame]

@[simp] theorem verifyRegister_store_chains (f : FoundAt) (s : State) (i : RegSlot) :
    (verifyRegister f s i).store.chains = s.store.chains := by rw [verifyRegister_frame]

@[simp] theorem verifyRegister_store_applicationCounter (f : FoundAt) (s : State) (i : RegSlot) :
    (verifyRegister f s i).store.applicationCounter = s.store.applicationCounter := by rw [verifyRegister_frame]

@[simp] theorem verifyRegister_store_mode (f : FoundAt) (s : State) (i : RegSlot) :
    (verifyRegister f s i).store.mode = s.store.mode := by rw [verifyRegister_frame]

@[simp] theorem verifyRegister_store_signature (f : FoundAt) (s : State) (i : RegSlot) :
    (verifyRegister f s i).store.signature = s.store.signature := by rw [verifyRegister_frame]

@[simp] theorem verifyRegister_store_coldMarker (f : FoundAt) (s : State) (i : RegSlot) :
    (verifyRegister f s i).store.coldMarker = s.store.coldMarker := by rw [verifyRegister_frame]

/-- The record that verification leaves in a slot. -/
def verifiedRecord (s : State) (i : RegSlot) : RegisterRec :=
  let r := s.store.registers[i]
  if r.state = .free ∨ checkMatches s i r then r
  else
    let r := if r.state = .suspect then r else markedSuspect r
    { r with check := registerCheck i (scaleOf s r.quantity) r }

theorem putRegister_register_self (i : RegSlot) (r : RegisterRec) (s : State) :
    (putRegister i r s).store.registers[i]
      = { r with check := registerCheck i (scaleOf s r.quantity) r } := get_set_self _ _ _

theorem putRegister_register_ne {i j : RegSlot} (h : i ≠ j) (r : RegisterRec) (s : State) :
    (putRegister i r s).store.registers[j] = s.store.registers[j] := get_set_ne _ h _

/-- A raise leaves every register. -/
theorem raise_register (n : Notice) (s : State) (j : RegSlot) :
    (raise n s).store.registers[j] = s.store.registers[j] := by simp only [raise_store]

theorem verifyRegister_of_matches (f : FoundAt) (s : State) (i : RegSlot)
    (h : s.store.registers[i].state = .free ∨ checkMatches s i s.store.registers[i] = true) :
    verifyRegister f s i = s := by
  unfold verifyRegister; exact if_pos h

theorem verifyRegister_register_self (f : FoundAt) (s : State) (i : RegSlot) :
    (verifyRegister f s i).store.registers[i] = verifiedRecord s i := by
  unfold verifyRegister verifiedRecord
  dsimp only
  split
  · rfl
  · split
    · exact putRegister_register_self i _ s
    · exact (raise_register _ _ i).trans (putRegister_register_self i _ s)

theorem verifyRegister_register_ne (f : FoundAt) (s : State) {i j : RegSlot} (h : i ≠ j) :
    (verifyRegister f s i).store.registers[j] = s.store.registers[j] := by
  unfold verifyRegister
  dsimp only
  split
  · rfl
  · split
    · exact putRegister_register_ne h _ s
    · exact (raise_register _ _ j).trans (putRegister_register_ne h _ s)

/-- Verification is one register's own: whether another's check word matches does not change. -/
theorem checkMatches_verifyRegister (f : FoundAt) (s : State) (i j : RegSlot) (r : RegisterRec) :
    checkMatches (verifyRegister f s i) j r = checkMatches s j r := by
  simp only [checkMatches, scaleOf, verifyRegister_store_quantities]

/-- A slot is FREE after verification exactly where it was. -/
theorem verifiedRecord_free_iff (s : State) (i : RegSlot) :
    (verifiedRecord s i).state = .free ↔ s.store.registers[i].state = .free := by
  unfold verifiedRecord markedSuspect
  dsimp only
  split
  · rfl
  · split <;> simp_all

/-- A record that did not match is SUSPECT after verification. -/
theorem verifiedRecord_suspect (s : State) (i : RegSlot)
    (hb : s.store.registers[i].state ≠ .free)
    (hm : checkMatches s i s.store.registers[i] = false) :
    (verifiedRecord s i).state = .suspect := by
  have h : ¬(s.store.registers[i].state = .free
      ∨ checkMatches s i s.store.registers[i] = true) := by
    simp only [hm, Bool.false_eq_true, or_false]; exact hb
  unfold verifiedRecord markedSuspect
  dsimp only
  rw [if_neg h]
  split
  · assumption
  · rfl

/-- Verification keeps what a record is bound to, and its wrap count. -/
theorem verifiedRecord_bound (s : State) (i : RegSlot) :
    (verifiedRecord s i).quantity = s.store.registers[i].quantity
    ∧ (verifiedRecord s i).selector = s.store.registers[i].selector
    ∧ (verifiedRecord s i).digits = s.store.registers[i].digits
    ∧ (verifiedRecord s i).policy = s.store.registers[i].policy
    ∧ (verifiedRecord s i).archive = s.store.registers[i].archive
    ∧ (verifiedRecord s i).periodReset = s.store.registers[i].periodReset
    ∧ (verifiedRecord s i).wrapCount = s.store.registers[i].wrapCount := by
  unfold verifiedRecord markedSuspect
  dsimp only
  split
  · simp
  · split <;> simp

/-! ### A list of registers verified in order -/

/-- What a run of verifications changes. -/
theorem foldl_verifyRegister_frame (f : FoundAt) (is : List RegSlot) (s : State) :
    ∃ ps regs, is.foldl (verifyRegister f) s
      = { s with ports := ps, store := { s.store with registers := regs } } := by
  induction is generalizing s with
  | nil => exact ⟨s.ports, s.store.registers, rfl⟩
  | cons i is ih =>
    obtain ⟨ps, regs, h⟩ := ih (verifyRegister f s i)
    refine ⟨ps, regs, ?_⟩
    rw [List.foldl_cons, h, verifyRegister_frame]

/-- A register that is not listed, or whose record verifies, is not changed by a run of
verifications. -/
theorem foldl_verifyRegister_register (f : FoundAt) (is : List RegSlot) (s : State) (j : RegSlot)
    (h : j ∉ is ∨ s.store.registers[j].state = .free
      ∨ checkMatches s j s.store.registers[j] = true) :
    (is.foldl (verifyRegister f) s).store.registers[j] = s.store.registers[j] := by
  induction is generalizing s with
  | nil => rfl
  | cons i is ih =>
    have step : (verifyRegister f s i).store.registers[j] = s.store.registers[j] := by
      by_cases hij : i = j
      · subst hij
        rcases h with h | h
        · exact absurd List.mem_cons_self h
        · rw [verifyRegister_of_matches f s i h]
      · exact verifyRegister_register_ne f s hij
    rw [List.foldl_cons, ih, step]
    rw [step, checkMatches_verifyRegister]
    exact h.imp_left fun h hj => h (List.mem_cons_of_mem i hj)

/-! ### What a verification tells the ports -/

theorem newlySuspect_iff (s : State) (i : RegSlot) : newlySuspect s i = true ↔
    s.store.registers[i].state ≠ .free ∧ s.store.registers[i].state ≠ .suspect
      ∧ checkMatches s i s.store.registers[i] = false := by
  unfold newlySuspect
  rw [Bool.and_eq_true, Bool.and_eq_true, bne_iff_ne, bne_iff_ne, Bool.not_eq_true', and_assoc]

theorem newlySuspect_verifyRegister (g : FoundAt) (s : State) {i j : RegSlot} (h : i ≠ j) :
    newlySuspect (verifyRegister g s i) j = newlySuspect s j := by
  unfold newlySuspect
  rw [verifyRegister_register_ne g s h, checkMatches_verifyRegister]

theorem suspectNotices_nil (f : FoundAt) (s : State) : suspectNotices f s [] = [] := rfl

theorem suspectNotices_cons_of_pos (f : FoundAt) {s : State} {i : RegSlot}
    (h : newlySuspect s i = true) (is : List RegSlot) :
    suspectNotices f s (i :: is)
      = suspectNotice i s.store.registers[i] f :: suspectNotices f s is := by
  unfold suspectNotices
  rw [List.filter_cons_of_pos h, List.map_cons]

theorem suspectNotices_cons_of_neg (f : FoundAt) {s : State} {i : RegSlot}
    (h : ¬ newlySuspect s i = true) (is : List RegSlot) :
    suspectNotices f s (i :: is) = suspectNotices f s is := by
  unfold suspectNotices
  rw [List.filter_cons_of_neg h]

theorem suspectNotices_cons (f : FoundAt) (s : State) (i : RegSlot) (is : List RegSlot) :
    suspectNotices f s (i :: is) = suspectNotices f s [i] ++ suspectNotices f s is := by
  by_cases h : newlySuspect s i = true
  · rw [suspectNotices_cons_of_pos f h, suspectNotices_cons_of_pos f h, suspectNotices_nil]; rfl
  · rw [suspectNotices_cons_of_neg f h, suspectNotices_cons_of_neg f h, suspectNotices_nil]; rfl

/-- The notices of other registers are not those of the one just verified. -/
theorem suspectNotices_verifyRegister (f g : FoundAt) (s : State) (i : RegSlot)
    {is : List RegSlot} (h : i ∉ is) :
    suspectNotices f (verifyRegister g s i) is = suspectNotices f s is := by
  induction is with
  | nil => rw [suspectNotices_nil, suspectNotices_nil]
  | cons j is ih =>
    have ih := ih fun hi => h (List.mem_cons_of_mem j hi)
    have hij : i ≠ j := fun e => h (e ▸ List.mem_cons_self)
    have hn := newlySuspect_verifyRegister g s hij
    by_cases hj : newlySuspect s j = true
    · rw [suspectNotices_cons_of_pos f (hn.trans hj), suspectNotices_cons_of_pos f hj, ih,
        verifyRegister_register_ne g s hij]
    · rw [suspectNotices_cons_of_neg f (hn ▸ hj), suspectNotices_cons_of_neg f hj, ih]

/-- What one verification tells a port. -/
theorem verifyRegister_port (f : FoundAt) (s : State) (i : RegSlot) (p : PortId) :
    (verifyRegister f s i).ports[p] = told s (suspectNotices f s [i]) p := by
  unfold verifyRegister
  dsimp only
  by_cases h : newlySuspect s i = true
  · have hi := (newlySuspect_iff s i).mp h
    have hm : ¬(s.store.registers[i].state = .free
        ∨ checkMatches s i s.store.registers[i] = true) :=
      fun h => h.elim hi.1 fun h => Bool.false_ne_true (hi.2.2 ▸ h)
    rw [suspectNotices_cons_of_pos f h, suspectNotices_nil, if_neg hm, if_neg hi.2.1,
      raise_port_told]
    rfl
  · rw [suspectNotices_cons_of_neg f h, suspectNotices_nil]
    rw [newlySuspect_iff] at h
    split
    · exact (told_nil s p).symm
    · rename_i hm
      rw [not_or] at hm
      rw [if_pos (by_contra fun hs => h ⟨hm.1, hs, Bool.eq_false_iff.mpr hm.2⟩)]
      exact (told_nil s p).symm

/-- What a run of verifications tells a port: the notices in the order of the list. -/
theorem foldl_verifyRegister_port (f : FoundAt) (is : List RegSlot) (h : is.Nodup) (s : State)
    (p : PortId) :
    (is.foldl (verifyRegister f) s).ports[p] = told s (suspectNotices f s is) p := by
  induction is generalizing s with
  | nil => rw [List.foldl_nil]; exact (told_nil s p).symm
  | cons i is ih =>
    rw [List.foldl_cons, ih (List.nodup_cons.mp h).2,
      suspectNotices_verifyRegister f f s i (List.nodup_cons.mp h).1, suspectNotices_cons f s i is]
    exact told_append (verifyRegister_port f s i p) (verifyRegister_portsUp f s i)
      (verifyRegister_supply f s i) _

end Sys2Proof.Machine
end

