-- ==== Sys2Proof/Laws/Closing.lean ====
section
/-! SUPPORT. What a demand interval's end, a close taken and the trimming of the log can do (R81, R92, R106),
and what the operations on a chain keep (R135, R137). -/

namespace Sys2Proof.Machine

/-! ### Chains -/

theorem chainFits_loaded {c : Chain} (h : ChainFits c) : ChainFits (loaded c) := by
  unfold ChainFits loaded at *
  by_cases hc : c.state = .unassigned <;> simp_all

theorem chainFits_held {c : Chain} (h : ChainFits c) : ChainFits (held c) := by
  unfold ChainFits held at *
  by_cases hc : c.state = .running <;> simp_all

theorem chainFits_released {c : Chain} (h : ChainFits c) : ChainFits (released c) := by
  unfold ChainFits released at *
  by_cases hc : c.state = .held <;> simp_all

@[simp] theorem assigned_loaded (c : Chain) : assigned (loaded c) = assigned c := by
  cases c with | mk a b d e st f => cases st <;> rfl

@[simp] theorem assigned_held (c : Chain) : assigned (held c) = assigned c := by
  cases c with | mk a b d e st f => cases st <;> rfl

@[simp] theorem assigned_released (c : Chain) : assigned (released c) = assigned c := by
  cases c with | mk a b d e st f => cases st <;> rfl

/-- A load, a hold and a release keep the segments a chain has. -/
theorem segments_loaded (c : Chain) :
    (loaded c).first = c.first ∧ (loaded c).length = c.length ∧ (loaded c).reload = c.reload := by
  unfold loaded; split <;> simp

theorem segments_held (c : Chain) :
    (held c).first = c.first ∧ (held c).length = c.length ∧ (held c).reload = c.reload := by
  unfold held; split <;> simp

theorem segments_released (c : Chain) :
    (released c).first = c.first ∧ (released c).length = c.length
      ∧ (released c).reload = c.reload := by
  unfold released; split <;> simp

/-- The entry written, and the others as they were. -/
theorem chainOf_withChain (cs : Chains) (f g : ChainFn) (c : Chain) :
    chainOf (withChain cs f c) g = if f = g then c else chainOf cs g := by
  cases f <;> cases g <;> rfl

/-! ### Interval ends and closes -/

@[simp] theorem clearInterval_store (s : State) :
    (clearInterval s).store = s.store := rfl

@[simp] theorem clearInterval_ports (s : State) :
    (clearInterval s).ports = s.ports := rfl

@[simp] theorem clearInterval_portsUp (s : State) :
    (clearInterval s).portsUp = s.portsUp := rfl

@[simp] theorem clearInterval_resetLow (s : State) :
    (clearInterval s).resetLow = s.resetLow := rfl

@[simp] theorem clearInterval_arbiterPointer (s : State) :
    (clearInterval s).arbiterPointer = s.arbiterPointer := rfl

@[simp] theorem clearInterval_queue (s : State) :
    (clearInterval s).queue = s.queue := rfl

@[simp] theorem clearInterval_engine (s : State) :
    (clearInterval s).engine = s.engine := rfl

@[simp] theorem clearInterval_captureQueue (s : State) :
    (clearInterval s).captureQueue = s.captureQueue := rfl

@[simp] theorem clearInterval_slots (s : State) :
    (clearInterval s).slots = s.slots := rfl

@[simp] theorem clearInterval_claim (s : State) :
    (clearInterval s).claim = s.claim := rfl

@[simp] theorem clearInterval_reopen (s : State) :
    (clearInterval s).reopen = s.reopen := rfl

@[simp] theorem clearInterval_lineHistory (s : State) :
    (clearInterval s).lineHistory = s.lineHistory := rfl

@[simp] theorem clearInterval_inputs (s : State) :
    (clearInterval s).inputs = s.inputs := rfl

@[simp] theorem clearInterval_converterPointer (s : State) :
    (clearInterval s).converterPointer = s.converterPointer := rfl

@[simp] theorem clearInterval_recognizer (s : State) :
    (clearInterval s).recognizer = s.recognizer := rfl

@[simp] theorem clearInterval_latch (s : State) :
    (clearInterval s).latch = s.latch := rfl

@[simp] theorem clearInterval_closeState (s : State) :
    (clearInterval s).closeState = s.closeState := rfl

@[simp] theorem clearInterval_currentClose (s : State) :
    (clearInterval s).currentClose = s.currentClose := rfl

@[simp] theorem clearInterval_doneOwed (s : State) :
    (clearInterval s).doneOwed = s.doneOwed := rfl

@[simp] theorem clearInterval_building (s : State) :
    (clearInterval s).building = s.building := rfl

@[simp] theorem clearInterval_accumulators (s : State) :
    (clearInterval s).accumulators = Vector.replicate 4 0 := rfl

@[simp] theorem clearInterval_intervalPartial (s : State) :
    (clearInterval s).intervalPartial = true := rfl

@[simp] theorem clearInterval_prescaler (s : State) :
    (clearInterval s).prescaler = s.prescaler := rfl

@[simp] theorem clearInterval_supply (s : State) :
    (clearInterval s).supply = s.supply := rfl

@[simp] theorem clearInterval_pfailAsserted (s : State) :
    (clearInterval s).pfailAsserted = s.pfailAsserted := rfl

@[simp] theorem clearInterval_retainDuration (s : State) :
    (clearInterval s).retainDuration = s.retainDuration := rfl

@[simp] theorem clearInterval_freeIndex (s : State) :
    (clearInterval s).freeIndex = s.freeIndex := rfl

@[simp] theorem clearInterval_pending (s : State) :
    (clearInterval s).pending = s.pending := rfl

@[simp] theorem partialEnd_store (s : State) :
    (partialEnd s).store = { raiseIndex s.store with
      chains := { s.store.chains with demand := loaded s.store.chains.demand } } := rfl

@[simp] theorem partialEnd_ports (s : State) :
    (partialEnd s).ports = s.ports := rfl

@[simp] theorem partialEnd_portsUp (s : State) :
    (partialEnd s).portsUp = s.portsUp := rfl

@[simp] theorem partialEnd_resetLow (s : State) :
    (partialEnd s).resetLow = s.resetLow := rfl

@[simp] theorem partialEnd_arbiterPointer (s : State) :
    (partialEnd s).arbiterPointer = s.arbiterPointer := rfl

@[simp] theorem partialEnd_queue (s : State) :
    (partialEnd s).queue = s.queue := rfl

@[simp] theorem partialEnd_engine (s : State) :
    (partialEnd s).engine = s.engine := rfl

@[simp] theorem partialEnd_captureQueue (s : State) :
    (partialEnd s).captureQueue = s.captureQueue := rfl

@[simp] theorem partialEnd_slots (s : State) :
    (partialEnd s).slots = s.slots := rfl

@[simp] theorem partialEnd_claim (s : State) :
    (partialEnd s).claim = s.claim := rfl

@[simp] theorem partialEnd_reopen (s : State) :
    (partialEnd s).reopen = s.reopen := rfl

@[simp] theorem partialEnd_lineHistory (s : State) :
    (partialEnd s).lineHistory = s.lineHistory := rfl

@[simp] theorem partialEnd_inputs (s : State) :
    (partialEnd s).inputs = s.inputs := rfl

@[simp] theorem partialEnd_converterPointer (s : State) :
    (partialEnd s).converterPointer = s.converterPointer := rfl

@[simp] theorem partialEnd_recognizer (s : State) :
    (partialEnd s).recognizer = s.recognizer := rfl

@[simp] theorem partialEnd_latch (s : State) :
    (partialEnd s).latch = s.latch := rfl

@[simp] theorem partialEnd_closeState (s : State) :
    (partialEnd s).closeState = s.closeState := rfl

@[simp] theorem partialEnd_currentClose (s : State) :
    (partialEnd s).currentClose = s.currentClose := rfl

@[simp] theorem partialEnd_doneOwed (s : State) :
    (partialEnd s).doneOwed = s.doneOwed := rfl

@[simp] theorem partialEnd_building (s : State) :
    (partialEnd s).building = s.building := rfl

@[simp] theorem partialEnd_accumulators (s : State) :
    (partialEnd s).accumulators = Vector.replicate 4 0 := rfl

@[simp] theorem partialEnd_intervalPartial (s : State) :
    (partialEnd s).intervalPartial = true := rfl

@[simp] theorem partialEnd_prescaler (s : State) :
    (partialEnd s).prescaler = s.prescaler := rfl

@[simp] theorem partialEnd_supply (s : State) :
    (partialEnd s).supply = s.supply := rfl

@[simp] theorem partialEnd_pfailAsserted (s : State) :
    (partialEnd s).pfailAsserted = s.pfailAsserted := rfl

@[simp] theorem partialEnd_retainDuration (s : State) :
    (partialEnd s).retainDuration = s.retainDuration := rfl

@[simp] theorem partialEnd_freeIndex (s : State) :
    (partialEnd s).freeIndex = s.freeIndex := rfl

@[simp] theorem partialEnd_pending (s : State) :
    (partialEnd s).pending = s.pending := rfl

@[simp] theorem closeStart_store (s : State) :
    (closeStart s).store = { s.store with
      chains := { s.store.chains with demand := held s.store.chains.demand } } := rfl

@[simp] theorem closeStart_ports (s : State) :
    (closeStart s).ports = s.ports := rfl

@[simp] theorem closeStart_portsUp (s : State) :
    (closeStart s).portsUp = s.portsUp := rfl

@[simp] theorem closeStart_resetLow (s : State) :
    (closeStart s).resetLow = s.resetLow := rfl

@[simp] theorem closeStart_arbiterPointer (s : State) :
    (closeStart s).arbiterPointer = s.arbiterPointer := rfl

@[simp] theorem closeStart_queue (s : State) :
    (closeStart s).queue = s.queue := rfl

@[simp] theorem closeStart_engine (s : State) :
    (closeStart s).engine = s.engine := rfl

@[simp] theorem closeStart_captureQueue (s : State) :
    (closeStart s).captureQueue = s.captureQueue := rfl

@[simp] theorem closeStart_slots (s : State) :
    (closeStart s).slots = s.slots := rfl

@[simp] theorem closeStart_claim (s : State) :
    (closeStart s).claim = s.claim := rfl

@[simp] theorem closeStart_reopen (s : State) :
    (closeStart s).reopen = s.reopen := rfl

@[simp] theorem closeStart_lineHistory (s : State) :
    (closeStart s).lineHistory = s.lineHistory := rfl

@[simp] theorem closeStart_inputs (s : State) :
    (closeStart s).inputs = s.inputs := rfl

@[simp] theorem closeStart_converterPointer (s : State) :
    (closeStart s).converterPointer = s.converterPointer := rfl

@[simp] theorem closeStart_recognizer (s : State) :
    (closeStart s).recognizer = s.recognizer := rfl

@[simp] theorem closeStart_latch (s : State) :
    (closeStart s).latch = s.latch := rfl

@[simp] theorem closeStart_closeState (s : State) :
    (closeStart s).closeState = s.closeState := rfl

@[simp] theorem closeStart_currentClose (s : State) :
    (closeStart s).currentClose = s.currentClose := rfl

@[simp] theorem closeStart_doneOwed (s : State) :
    (closeStart s).doneOwed = s.doneOwed := rfl

@[simp] theorem closeStart_building (s : State) :
    (closeStart s).building = s.building := rfl

@[simp] theorem closeStart_accumulators (s : State) :
    (closeStart s).accumulators = Vector.replicate 4 0 := rfl

@[simp] theorem closeStart_intervalPartial (s : State) :
    (closeStart s).intervalPartial = true := rfl

@[simp] theorem closeStart_prescaler (s : State) :
    (closeStart s).prescaler = s.prescaler := rfl

@[simp] theorem closeStart_supply (s : State) :
    (closeStart s).supply = s.supply := rfl

@[simp] theorem closeStart_pfailAsserted (s : State) :
    (closeStart s).pfailAsserted = s.pfailAsserted := rfl

@[simp] theorem closeStart_retainDuration (s : State) :
    (closeStart s).retainDuration = s.retainDuration := rfl

@[simp] theorem closeStart_freeIndex (s : State) :
    (closeStart s).freeIndex = s.freeIndex := rfl

@[simp] theorem closeStart_pending (s : State) :
    (closeStart s).pending = s.pending := rfl

@[simp] theorem takeClose_store (cause : Cause) (requester : Option PortId) (s : State) :
    (takeClose cause requester s).store = { s.store with
      overdueHeld := false
      chains := { s.store.chains with demand := held s.store.chains.demand } } := rfl

@[simp] theorem takeClose_ports (cause : Cause) (requester : Option PortId) (s : State) :
    (takeClose cause requester s).ports = s.ports := rfl

@[simp] theorem takeClose_portsUp (cause : Cause) (requester : Option PortId) (s : State) :
    (takeClose cause requester s).portsUp = s.portsUp := rfl

@[simp] theorem takeClose_resetLow (cause : Cause) (requester : Option PortId) (s : State) :
    (takeClose cause requester s).resetLow = s.resetLow := rfl

@[simp] theorem takeClose_arbiterPointer (cause : Cause) (requester : Option PortId) (s : State) :
    (takeClose cause requester s).arbiterPointer = s.arbiterPointer := rfl

@[simp] theorem takeClose_queue (cause : Cause) (requester : Option PortId) (s : State) :
    (takeClose cause requester s).queue = s.queue := rfl

@[simp] theorem takeClose_engine (cause : Cause) (requester : Option PortId) (s : State) :
    (takeClose cause requester s).engine = s.engine := rfl

@[simp] theorem takeClose_captureQueue (cause : Cause) (requester : Option PortId) (s : State) :
    (takeClose cause requester s).captureQueue = s.captureQueue := rfl

@[simp] theorem takeClose_slots (cause : Cause) (requester : Option PortId) (s : State) :
    (takeClose cause requester s).slots = s.slots := rfl

@[simp] theorem takeClose_claim (cause : Cause) (requester : Option PortId) (s : State) :
    (takeClose cause requester s).claim = s.claim := rfl

@[simp] theorem takeClose_reopen (cause : Cause) (requester : Option PortId) (s : State) :
    (takeClose cause requester s).reopen = s.reopen := rfl

@[simp] theorem takeClose_lineHistory (cause : Cause) (requester : Option PortId) (s : State) :
    (takeClose cause requester s).lineHistory = s.lineHistory := rfl

@[simp] theorem takeClose_inputs (cause : Cause) (requester : Option PortId) (s : State) :
    (takeClose cause requester s).inputs = s.inputs := rfl

@[simp] theorem takeClose_converterPointer (cause : Cause) (requester : Option PortId) (s : State) :
    (takeClose cause requester s).converterPointer = s.converterPointer := rfl

@[simp] theorem takeClose_recognizer (cause : Cause) (requester : Option PortId) (s : State) :
    (takeClose cause requester s).recognizer = s.recognizer := rfl

@[simp] theorem takeClose_latch (cause : Cause) (requester : Option PortId) (s : State) :
    (takeClose cause requester s).latch = false := rfl

@[simp] theorem takeClose_closeState (cause : Cause) (requester : Option PortId) (s : State) :
    (takeClose cause requester s).closeState = .requested := rfl

@[simp] theorem takeClose_currentClose (cause : Cause) (requester : Option PortId) (s : State) :
    (takeClose cause requester s).currentClose = some ⟨cause, requester⟩ := rfl

@[simp] theorem takeClose_doneOwed (cause : Cause) (requester : Option PortId) (s : State) :
    (takeClose cause requester s).doneOwed = (cause == .command) := rfl

@[simp] theorem takeClose_building (cause : Cause) (requester : Option PortId) (s : State) :
    (takeClose cause requester s).building = s.building := rfl

@[simp] theorem takeClose_accumulators (cause : Cause) (requester : Option PortId) (s : State) :
    (takeClose cause requester s).accumulators = Vector.replicate 4 0 := rfl

@[simp] theorem takeClose_intervalPartial (cause : Cause) (requester : Option PortId) (s : State) :
    (takeClose cause requester s).intervalPartial = true := rfl

@[simp] theorem takeClose_prescaler (cause : Cause) (requester : Option PortId) (s : State) :
    (takeClose cause requester s).prescaler = s.prescaler := rfl

@[simp] theorem takeClose_supply (cause : Cause) (requester : Option PortId) (s : State) :
    (takeClose cause requester s).supply = s.supply := rfl

@[simp] theorem takeClose_pfailAsserted (cause : Cause) (requester : Option PortId) (s : State) :
    (takeClose cause requester s).pfailAsserted = s.pfailAsserted := rfl

@[simp] theorem takeClose_retainDuration (cause : Cause) (requester : Option PortId) (s : State) :
    (takeClose cause requester s).retainDuration = s.retainDuration := rfl

@[simp] theorem takeClose_freeIndex (cause : Cause) (requester : Option PortId) (s : State) :
    (takeClose cause requester s).freeIndex = s.freeIndex := rfl

@[simp] theorem takeClose_pending (cause : Cause) (requester : Option PortId) (s : State) :
    (takeClose cause requester s).pending = s.pending := rfl

/-! ### The log trimmed -/

theorem bytesUsed_cons (e : LogEntry) (es : List LogEntry) :
    bytesUsed (e :: es) = e.size + bytesUsed es := by
  simp [bytesUsed]

/-- What is left after trimming is the newest end of the log, has room for one more record, and has
the bytes for one of the size. -/
theorem trimmed_spec (size : Nat) (es : List LogEntry) (hs : size ≤ logByteLimit) :
    trimmed size es = es.drop (es.length - (trimmed size es).length)
    ∧ (trimmed size es).length ≤ es.length
    ∧ (trimmed size es).length < logRecordLimit
    ∧ bytesUsed (trimmed size es) + size ≤ logByteLimit := by
  induction es with
  | nil =>
    refine ⟨rfl, Nat.le_refl _, Nat.zero_lt_succ 31, ?_⟩
    simpa [trimmed, bytesUsed] using hs
  | cons e es ih =>
    unfold trimmed
    split
    next h => exact ⟨by simp, Nat.le_refl _, h.1, h.2⟩
    next h =>
      obtain ⟨h1, h2, h3, h4⟩ := ih
      refine ⟨?_, ?_, h3, h4⟩
      · have : (e :: es).length - (trimmed size es).length
            = (es.length - (trimmed size es).length) + 1 := by
          simp only [List.length_cons]; omega
        rw [this, List.drop_succ_cons]
        exact h1
      · simp only [List.length_cons]; omega

/-- Where the log has room already, no record is removed. -/
theorem trimmed_of_room (size : Nat) (es : List LogEntry) (h1 : es.length < logRecordLimit)
    (h2 : bytesUsed es + size ≤ logByteLimit) : trimmed size es = es := by
  cases es with
  | nil => rfl
  | cons e es => exact if_pos ⟨h1, h2⟩

end Sys2Proof.Machine
end

