-- ==== Sys2Proof/Laws/Frames.lean ====
section
/-! SUPPORT. What taking a frame's command can do (R145 to R149): where the port is free to run it, the
command's own block decides, and the port then holds the answer. -/

namespace Sys2Proof.Machine

/-- Two changes of one port in a row. -/
theorem onPort_onPort (p : PortId) (f g : Port → Port) (s : State) :
    onPort p f (onPort p g s) = onPort p (fun q => f (g q)) s := by
  have h : f (onPort p g s).ports[p] = f (g s.ports[p]) := by rw [onPort_port_self]
  unfold onPort at h ⊢
  simp only [h]
  congr 1
  simp

/-- Changes of one port that agree on it. -/
theorem onPort_congr {p : PortId} {f g : Port → Port} {s : State}
    (h : f s.ports[p] = g s.ports[p]) : onPort p f s = onPort p g s := by
  unfold onPort; rw [h]

/-! ### A frame through the states of a run (R145, R159) -/

@[simp] theorem phaseIn_of_listening {s : State} (h : listening s = true) (phase : FramePhase) :
    phaseIn s phase = phase := by
  cases phase <;> simp [phaseIn, h]

/-- Where the ports take no frame, a frame is abandoned, and chip select high is chip select high. -/
theorem phaseIn_of_not_listening {s : State} (h : listening s = false) (phase : FramePhase) :
    phaseIn s phase = if phase = .unselected then .unselected else .abandoned := by
  cases phase <;> simp [phaseIn, h]

@[simp] theorem phaseIn_abandoned (s : State) : phaseIn s .abandoned = .abandoned := by
  simp [phaseIn]

@[simp] theorem drivenByte_abandoned (s : State) (p : PortId) : drivenByte s p .abandoned = none := by
  simp [drivenByte]

@[simp] theorem phaseAfterByte_abandoned (s : State) (p : PortId) :
    phaseAfterByte s p .abandoned = .abandoned := by
  simp [phaseAfterByte]

/-- Where the ports take no frame, no port drives its data output. -/
theorem drivenByte_of_not_listening {s : State} (h : listening s = false) (p : PortId)
    (phase : FramePhase) : drivenByte s p phase = none := by
  cases phase <;> simp [drivenByte, phaseIn, h]

/-! ### The common checks see no frame -/

@[simp] theorem listening_openFrame (p : PortId) (s : State) :
    listening (openFrame p s) = listening s := rfl

@[simp] theorem capturing_openFrame (p : PortId) (s : State) :
    capturing (openFrame p s) = capturing s := rfl

@[simp] theorem commonRefusal_openFrame (p q : PortId) (c : Command) (s : State) :
    commonRefusal p c (openFrame q s) = commonRefusal p c s := rfl

theorem openFrame_execution {p : PortId} {s : State} (h : s.ports[p].execution = none) :
    (openFrame p s).ports[p].execution = none := by
  unfold openFrame
  rw [onPort_port_self]
  simp only [h, Option.map_none]

/-! ### A command that runs at once -/

/-- A command whose port is free enters execution as its frame ends. -/
theorem takeCommand_of_takes {p : PortId} {s : State} (h : Takes p s) (k : CommandKind)
    {args : List Byte} (hl : args.length ≤ lengthLimit) :
    takeCommand p k args s = runOne p ⟨⟨k, args⟩, true⟩ (openFrame p s) := by
  unfold takeCommand
  rw [if_pos h.1]
  dsimp only
  rw [if_neg (Nat.not_lt.mpr hl), if_pos]
  rw [openFrame_execution h.2.1]
  rfl

/-- The result of a command whose frame is open, on a state whose port is otherwise as the frame found
it. -/
theorem giveResult_openFrame {p : PortId} {k : CommandKind} (args : List Byte) (st : Status)
    (data : List Byte) {t : State} (he : t.ports[p].execution = none) (hk : k ≠ .postIncrement) :
    giveResult p ⟨⟨k, args⟩, true⟩ st data (openFrame p t) = afterAnswer p k st data t := by
  unfold giveResult afterAnswer openFrame
  rw [onPort_onPort]
  refine onPort_congr ?_
  have he' : t.ports[p.val].execution = none := he
  simp [answered, framed, resultTag, hk, he']

/-- A reply that passes is OK. -/
theorem not_passes_answer (s : State) {st : Status} (h : st ≠ .ok) (data : List Byte) :
    passes (answer s st data) = false := by
  simpa [passes, answer] using h

/-- A command that passes the common checks is answered as its own block answers it, unless it is taken by
the engine, passes that block's checks too, and the engine is capturing. -/
theorem runCommand_answered {p : PortId} {c : Command} {s t : State} {st : Status}
    {data : List Byte} (hc : commonRefusal p c s = none)
    (hw : ¬(takenByEngine c.kind = true ∧ capturing s = true) ∨ st ≠ .ok)
    (hd : dispatched p c s = answer t st data) : runCommand p c s = answer t st data := by
  unfold runCommand
  rw [hc, hd]
  refine if_neg fun h => ?_
  rcases hw with hw | hw
  · exact hw ⟨h.1, h.2.1⟩
  · rw [not_passes_answer t hw] at h; exact absurd h.2.2 (by decide)

/-- A command that its own block answers at once. -/
theorem takeCommand_answered {p : PortId} {s : State} (h : Takes p s) {k : CommandKind}
    {args : List Byte} (hl : args.length ≤ lengthLimit) (hc : commonRefusal p ⟨k, args⟩ s = none)
    {t : State} {st : Status} {data : List Byte}
    (hw : ¬(takenByEngine k = true ∧ capturing s = true) ∨ st ≠ .ok)
    (hd : dispatched p ⟨k, args⟩ (openFrame p s) = answer t st data) :
    takeCommand p k args s = giveResult p ⟨⟨k, args⟩, true⟩ st data t := by
  rw [takeCommand_of_takes h k hl]
  have hr : runCommand p ⟨k, args⟩ (openFrame p s) = answer t st data :=
    runCommand_answered (by rw [commonRefusal_openFrame, hc]) hw hd
  unfold runOne
  dsimp only
  rw [hr]
  rfl

/-- A command that a common check turns away. -/
theorem takeCommand_refused {p : PortId} {s : State} (h : Takes p s) {k : CommandKind}
    {args : List Byte} (hl : args.length ≤ lengthLimit) {st : Status}
    (hc : commonRefusal p ⟨k, args⟩ s = some st) (hk : k ≠ .postIncrement) :
    takeCommand p k args s = afterAnswer p k st [] s := by
  rw [takeCommand_of_takes h k hl]
  unfold runOne runCommand
  simp only [commonRefusal_openFrame, hc, refuse]
  exact giveResult_openFrame args st [] h.2.1 hk

/-- A result reaches its own port only. -/
theorem giveResult_frame (p : PortId) (ex : Execution) (st : Status) (data : List Byte) (s : State) :
    giveResult p ex st data s = { s with ports := (giveResult p ex st data s).ports } := rfl

theorem giveResult_port_ne {p q : PortId} (h : p ≠ q) (ex : Execution) (st : Status)
    (data : List Byte) (s : State) : (giveResult p ex st data s).ports[q] = s.ports[q] :=
  onPort_port_ne h _ s

/-- A port with its result is in execution no more. -/
theorem giveResult_execution (p : PortId) (ex : Execution) (st : Status) (data : List Byte)
    (s : State) : (giveResult p ex st data s).ports[p].execution = none := by
  unfold giveResult
  rw [onPort_port_self]

/-! ### Where no frame is taken -/

/-- A port that does not decode frames takes no command. -/
theorem takeCommand_of_not_listening {p : PortId} {s : State} (h : listening s = false)
    (k : CommandKind) (args : List Byte) : takeCommand p k args s = s := by
  unfold takeCommand
  rw [h]
  rfl

end Sys2Proof.Machine
end

