-- ==== Sys2Proof/Laws/Numbers.lean ====
section
/-! SUPPORT. Numbers written as digits or as bytes and read again give the number, as far as the width
holds it. -/

namespace Sys2Proof.Machine

/-! ### Decimal digits (R4) -/

theorem digitsOfNat_zero (n : Nat) : (digitsOfNat 0 n).toList = [] :=
  List.eq_nil_of_length_eq_zero (by simp)

theorem digitsOfNat_succ (w n : Nat) :
    (digitsOfNat (w + 1) n).toList
      = BitVec.ofNat 4 (n / 10 ^ w % 10) :: (digitsOfNat w n).toList := by
  simp only [digitsOfNat, Vector.toList_ofFn, List.ofFn_succ]
  congr 1
  congr 1
  funext i
  have h : w + 1 - 1 - (i.succ : Fin (w + 1)).val = w - 1 - i.val := by
    simp only [Fin.val_succ]; omega
  rw [h]

/-- One decimal digit fits its cell. -/
theorem toNat_digit (n : Nat) : (BitVec.ofNat 4 (n % 10)).toNat = n % 10 := by
  rw [BitVec.toNat_ofNat]; omega

/-- A cell that holds a decimal digit counts as that digit. -/
theorem digitValue_of_isDecimal {c : Digit} (h : isDecimal c = true) : digitValue c = c.toNat := by
  rw [digitValue, if_pos h]

theorem digitValue_digit (n : Nat) : digitValue (BitVec.ofNat 4 (n % 10)) = n % 10 := by
  rw [digitValue_of_isDecimal, toNat_digit]
  rw [isDecimal, toNat_digit, decide_eq_true_eq]; omega

/-- Every cell counts at most 9, whatever it holds. -/
theorem digitValue_le (c : Digit) : digitValue c ≤ 9 := by
  by_cases h : isDecimal c = true
  · rw [digitValue_of_isDecimal h]; exact of_decide_eq_true h
  · rw [digitValue, if_neg h]; have := (Config.digitOfCode c).isLt; omega

theorem foldl_digitsOfNat (w n a : Nat) :
    (digitsOfNat w n).toList.foldl (fun a c => a * 10 + digitValue c) a
      = a * 10 ^ w + n % 10 ^ w := by
  induction w generalizing a with
  | zero => rw [digitsOfNat_zero]; simp [Nat.mod_one]
  | succ w ih =>
    rw [digitsOfNat_succ, List.foldl_cons, ih, digitValue_digit, Nat.mod_pow_succ, Nat.pow_succ]
    ring

/-- Cells count less than one more than a run of nines, whatever they hold. -/
theorem foldl_digitValue_lt (l : List Digit) (a : Nat) :
    l.foldl (fun a c => a * 10 + digitValue c) a < (a + 1) * 10 ^ l.length := by
  induction l generalizing a with
  | nil => simp
  | cons c l ih =>
    rw [List.foldl_cons, List.length_cons, Nat.pow_succ]
    have h1 := ih (a * 10 + digitValue c)
    have h2 : (a * 10 + digitValue c + 1) * 10 ^ l.length ≤ (a + 1) * 10 * 10 ^ l.length :=
      Nat.mul_le_mul_right _ (by have := digitValue_le c; omega)
    calc _ < _ := h1
      _ ≤ _ := h2
      _ = _ := by ring

/-- A digit string counts less than its width allows, whatever its cells hold. -/
theorem digitsToNat_lt {w : Nat} (d : Digits w) : digitsToNat d < 10 ^ w := by
  have h := foldl_digitValue_lt d.toList 0
  rw [Vector.length_toList, Nat.zero_add, Nat.one_mul] at h
  exact h

/-- Digits read again: the number, modulo what the width holds. -/
theorem digitsToNat_digitsOfNat (w n : Nat) : digitsToNat (digitsOfNat w n) = n % 10 ^ w := by
  rw [digitsToNat, foldl_digitsOfNat]; simp

/-- Digits of a number that fits are read as that number. -/
theorem digitsToNat_digitsOfNat_of_lt {w n : Nat} (h : n < 10 ^ w) :
    digitsToNat (digitsOfNat w n) = n := by
  rw [digitsToNat_digitsOfNat, Nat.mod_eq_of_lt h]

theorem digitValue_zero : digitValue 0 = 0 := digitValue_digit 0

theorem foldl_digitValue_zeros (n : Nat) (l : List Digit) :
    (List.replicate n (0 : Digit) ++ l).foldl (fun a c => a * 10 + digitValue c) 0
      = l.foldl (fun a c => a * 10 + digitValue c) 0 := by
  induction n with
  | zero => rfl
  | succ n ih => rw [List.replicate_succ, List.cons_append, List.foldl_cons, digitValue_zero, ih]

/-- The lowest `n` cells are the list's last `n`, with zeros before them. -/
theorem toList_lastDigits {n w : Nat} (h : n ≤ w) (d : Digits w) :
    (lastDigits n d).toList = List.replicate (w - n) 0 ++ d.toList.drop (w - n) := by
  apply List.ext_getElem
  · simp
  · intro i h1 h2
    simp only [lastDigits, Vector.toList_ofFn, List.getElem_ofFn, List.getElem_append,
      List.length_replicate, List.getElem_replicate, List.getElem_drop, Vector.getElem_toList]
    have hi : i < w := by simpa using h1
    by_cases hn : i < w - n
    · rw [if_neg (by omega), dif_pos hn]
    · rw [if_pos (by omega), dif_neg hn]
      have e : w - n + (i - (w - n)) = i := by omega
      simp only [e, Fin.getElem_fin]

/-- The lowest `n` cells count less than `n` digits allow. -/
theorem digitsToNat_lastDigits_lt {n w : Nat} (h : n ≤ w) (d : Digits w) :
    digitsToNat (lastDigits n d) < 10 ^ n := by
  rw [digitsToNat, toList_lastDigits h, foldl_digitValue_zeros]
  have hl := foldl_digitValue_lt (d.toList.drop (w - n)) 0
  rw [List.length_drop, Vector.length_toList, Nat.zero_add, Nat.one_mul] at hl
  rwa [show w - (w - n) = n by omega] at hl

/-- The lowest `n` cells of a number that has at most `n` digits are that number. -/
theorem lastDigits_digitsOfNat {n w v : Nat} (h : v < 10 ^ n) :
    lastDigits n (digitsOfNat w v) = digitsOfNat w v := by
  apply Vector.ext
  intro i hi
  simp only [lastDigits, digitsOfNat, Vector.getElem_ofFn, Fin.getElem_fin]
  split
  · rfl
  · rename_i hn
    have h1 : v < 10 ^ (w - 1 - i) :=
      Nat.lt_of_lt_of_le h (Nat.pow_le_pow_right (by omega) (by omega))
    rw [Nat.div_eq_of_lt h1]; rfl

/-- Every cell written holds a decimal digit. -/
theorem isDecimal_digitsOfNat (w n : Nat) :
    ∀ c ∈ (digitsOfNat w n).toList, isDecimal c = true := by
  induction w with
  | zero => rw [digitsOfNat_zero]; simp
  | succ w ih =>
    rw [digitsOfNat_succ]
    intro c hc
    rcases List.mem_cons.mp hc with rfl | h
    · rw [isDecimal, toNat_digit]; simp; omega
    · exact ih c h

/-! ### Big-endian bytes (R161) -/

theorem length_bigEndian (n v : Nat) : (bigEndian n v).length = n := by
  induction n generalizing v with
  | zero => rfl
  | succ n ih => simp [bigEndian, ih]

theorem fromBigEndian_append (bs : List Byte) (b : Byte) :
    fromBigEndian (bs ++ [b]) = fromBigEndian bs * 256 + b.toNat := by
  simp [fromBigEndian]

/-- Bytes read again: the number, modulo what they hold. -/
theorem fromBigEndian_bigEndian (n v : Nat) : fromBigEndian (bigEndian n v) = v % 256 ^ n := by
  induction n generalizing v with
  | zero => simp [bigEndian, fromBigEndian, Nat.mod_one]
  | succ n ih =>
    have h : (byte v).toNat = v % 256 := BitVec.toNat_ofNat v 8
    have e : 256 ^ (n + 1) = 256 * 256 ^ n := by ring
    rw [bigEndian, fromBigEndian_append, ih, h, e, Nat.mod_mul]
    ring

theorem fromBigEndian_bigEndian_of_lt {n v : Nat} (h : v < 256 ^ n) :
    fromBigEndian (bigEndian n v) = v := by
  rw [fromBigEndian_bigEndian, Nat.mod_eq_of_lt h]

/-! ### Packed decimal (R161, R162) -/

/-- The byte of two digits. -/
theorem toNat_nibbles (a b : Nat) :
    (BitVec.ofNat 4 (a % 10) ++ BitVec.ofNat 4 (b % 10) : BitVec 8).toNat
      = a % 10 * 16 + b % 10 := by
  rw [BitVec.toNat_append, toNat_digit, toNat_digit, Nat.shiftLeft_eq]
  have h : a % 10 * 2 ^ 4 ||| b % 10 = a % 10 * 2 ^ 4 + b % 10 := by
    rw [Nat.mul_comm]; exact (Nat.two_pow_add_eq_or_of_lt (by omega) _).symm
  omega

theorem packedDecimal_zero (v : Nat) : packedDecimal 0 v = [] := by
  simp only [packedDecimal, packDigits, if_true, Nat.mul_zero, Nat.zero_mod]
  rw [digitsOfNat_zero]; rfl

theorem packedDecimal_succ (n v : Nat) :
    packedDecimal (n + 1) v
      = (BitVec.ofNat 4 (v / 10 ^ (2 * n + 1) % 10) ++ BitVec.ofNat 4 (v / 10 ^ (2 * n) % 10)
          : BitVec 8) :: packedDecimal n v := by
  have e : 2 * (n + 1) = 2 * n + 1 + 1 := by ring
  have h1 : 2 * (n + 1) % 2 = 0 := by omega
  have h2 : 2 * n % 2 = 0 := by omega
  simp only [packedDecimal, packDigits, h1, h2, if_true]
  rw [show (digitsOfNat (2 * (n + 1)) v).toList = (digitsOfNat (2 * n + 1 + 1) v).toList from by
    rw [e], digitsOfNat_succ, digitsOfNat_succ]
  rfl

theorem length_packedDecimal (n v : Nat) : (packedDecimal n v).length = n := by
  induction n with
  | zero => rw [packedDecimal_zero]; rfl
  | succ n ih => rw [packedDecimal_succ, List.length_cons, ih]

theorem decimal_packedDecimal (n v : Nat) :
    (packedDecimal n v).all
      (fun b => decide (b.toNat / 16 ≤ 9) && decide (b.toNat % 16 ≤ 9)) = true := by
  induction n with
  | zero => rw [packedDecimal_zero]; rfl
  | succ n ih =>
    rw [packedDecimal_succ, List.all_cons, ih, Bool.and_true, toNat_nibbles]
    simp only [Bool.and_eq_true, decide_eq_true_eq]
    omega

theorem foldl_packedDecimal (n v a : Nat) :
    (packedDecimal n v).foldl (fun a b => a * 100 + b.toNat / 16 * 10 + b.toNat % 16) a
      = a * 100 ^ n + v % 10 ^ (2 * n) := by
  induction n generalizing a with
  | zero => rw [packedDecimal_zero]; simp [Nat.mod_one]
  | succ n ih =>
    rw [packedDecimal_succ, List.foldl_cons, ih, toNat_nibbles]
    have e : 2 * (n + 1) = 2 * n + 1 + 1 := by ring
    have h1 : ∀ x y : Nat, (x % 10 * 16 + y % 10) / 16 = x % 10 := by omega
    have h2 : ∀ x y : Nat, (x % 10 * 16 + y % 10) % 16 = y % 10 := by omega
    rw [h1, h2, e, Nat.mod_pow_succ, Nat.mod_pow_succ, Nat.pow_succ, Nat.pow_succ]
    have h3 : (100 : Nat) ^ n = 10 ^ (2 * n) := by rw [pow_mul]; norm_num
    rw [h3]
    ring

/-- Packed decimal read again: the number, modulo what the bytes hold. -/
theorem parsePacked_packedDecimal (n v : Nat) :
    parsePacked (packedDecimal n v) = some (v % 10 ^ (2 * n)) := by
  rw [parsePacked, decimal_packedDecimal, if_pos rfl, foldl_packedDecimal]; simp

end Sys2Proof.Machine
end

