-- ==== Sys2Proof/Laws/Slots.lean ====
section
/-! SUPPORT. What freeing snapshot slots can do (R118, R121, R127, R130): the slot is FREE, its capture
request is withdrawn, and nothing else changes. -/

namespace Sys2Proof.Machine

/-- What freeing a slot changes. -/
theorem freeSlot_frame (s : State) (i : SnapId) :
    freeSlot s i = { s with
      slots := s.slots.set i .free
      captureQueue := s.captureQueue.filter (· != i)
      engine := (freeSlot s i).engine } := rfl

/-- The engine is changed by freeing a slot only where it captures for that slot. -/
theorem freeSlot_engine (s : State) (i : SnapId)
    (h : ∀ w copies stamp, s.engine ≠ .capturing i w copies stamp) :
    (freeSlot s i).engine = s.engine := by
  unfold freeSlot withdrawCapture
  dsimp only
  split
  next j w copies stamp he =>
    split
    next hj => subst hj; exact absurd he (h w copies stamp)
    next => exact he.symm
  next => rfl

theorem freeSlot_slot_self (s : State) (i : SnapId) : (freeSlot s i).slots[i] = .free :=
  get_set_self _ _ _

theorem freeSlot_slot_ne (s : State) {i j : SnapId} (h : i ≠ j) :
    (freeSlot s i).slots[j] = s.slots[j] := get_set_ne _ h _

/-- A freed slot's request waits no more, and no other request leaves the queue. -/
theorem mem_freeSlot_captureQueue (s : State) (i j : SnapId) :
    j ∈ (freeSlot s i).captureQueue ↔ j ∈ s.captureQueue ∧ j ≠ i := by
  show j ∈ s.captureQueue.filter (· != i) ↔ _
  simp

/-- What freeing several slots changes. -/
theorem foldl_freeSlot_frame (is : List SnapId) (s : State) :
    ∃ slots queue engine, is.foldl freeSlot s
      = { s with slots := slots, captureQueue := queue, engine := engine } := by
  induction is generalizing s with
  | nil => exact ⟨s.slots, s.captureQueue, s.engine, rfl⟩
  | cons i is ih =>
    obtain ⟨a, b, c, h⟩ := ih (freeSlot s i)
    exact ⟨a, b, c, by rw [List.foldl_cons, h, freeSlot_frame]⟩

/-- After every slot has been freed, none is held and no capture request waits. -/
theorem freeAllSlots_free (s : State) :
    (∀ j : SnapId, (freeAllSlots s).slots[j] = .free) ∧ (freeAllSlots s).captureQueue = [] := by
  have key : ∀ j : SnapId, (freeAllSlots s).slots[j] = .free
      ∧ j ∉ (freeAllSlots s).captureQueue := by
    intro j
    simp only [freeAllSlots, List.foldl_cons, List.foldl_nil]
    refine ⟨?_, ?_⟩
    · show ((((s.slots.set 0 SnapSlot.free).set 1 .free).set 2 .free).set 3 .free)[j.val] = .free
      simp only [Vector.getElem_set]
      have := j.isLt
      split_ifs <;> first | rfl | omega
    · simp only [mem_freeSlot_captureQueue]
      rintro ⟨⟨⟨⟨_, h0⟩, h1⟩, h2⟩, h3⟩
      fin_cases j <;> simp_all
  exact ⟨fun j => (key j).1, List.eq_nil_iff_forall_not_mem.mpr fun j => (key j).2⟩

/-- What freeing a port's slots changes. -/
theorem freeSlotsOf_frame (p : PortId) (s : State) :
    ∃ slots queue engine, freeSlotsOf p s
      = { s with slots := slots, captureQueue := queue, engine := engine } := by
  suffices h : ∀ (is : List SnapId) (s : State), ∃ slots queue engine,
      is.foldl (fun s i => if slotHolder s.slots[i] = some p then freeSlot s i else s) s
        = { s with slots := slots, captureQueue := queue, engine := engine } from h _ s
  intro is
  induction is with
  | nil => exact fun s => ⟨s.slots, s.captureQueue, s.engine, rfl⟩
  | cons i is ih =>
    intro s
    obtain ⟨a, b, c, h⟩ := ih (if slotHolder s.slots[i] = some p then freeSlot s i else s)
    refine ⟨a, b, c, ?_⟩
    rw [List.foldl_cons, h]
    split
    · rw [freeSlot_frame]
    · rfl

/-- What the reset of one port changes: the ports, the slots and their requests, the claim, and what is
owed to the port. -/
theorem resetPort_frame (s : State) (p : PortId) :
    ∃ ports slots queue engine claim owed reopen, resetPort s p
      = { s with
          ports := ports, slots := slots, captureQueue := queue, engine := engine
          claim := claim, doneOwed := owed, reopen := reopen } := by
  unfold resetPort
  dsimp only
  obtain ⟨a, b, c, h⟩ := freeSlotsOf_frame p (onPort p (fun q =>
    { q with notices := [], attn := false, overrun := false, mask := 0x3F#6,
             lastResult := none }) s)
  rw [h]
  exact ⟨_, _, _, _, _, _, _, rfl⟩

end Sys2Proof.Machine
end

