-- ==== Sys2Proof/Laws/Ticks.lean ====
section
/-! SUPPORT. What a tick can do: it reaches each of its takers once, in the order given, and keeps the ratios
of the ticks; and what a part of a tick taken ahead leaves. -/

namespace Sys2Proof.Machine

theorem mem_eraseDups {l : List TickTaker} {t : TickTaker} : t ∈ l.eraseDups ↔ t ∈ l :=
  List.mem_eraseDups

/-- A tick reaches exactly its takers. -/
theorem mem_takerOrder (first takers : List TickTaker) (t : TickTaker) :
    t ∈ takerOrder first takers ↔ t ∈ takers := by
  simp only [takerOrder, List.mem_append, List.mem_filter, mem_eraseDups, List.contains_eq_mem,
    decide_eq_true_eq, Bool.not_eq_true', decide_eq_false_iff_not]
  tauto

theorem nodup_eraseDups (l : List TickTaker) : l.eraseDups.Nodup := by
  induction h : l.length using Nat.strong_induction_on generalizing l with
  | _ n ih =>
    cases l with
    | nil => simp
    | cons a l =>
      rw [List.eraseDups_cons, List.nodup_cons]
      refine ⟨?_, ih _ ?_ _ rfl⟩
      · simp
      · have := List.length_filter_le (fun b => !b == a) l
        simp only [List.length_cons] at h
        omega

/-- A tick reaches no taker twice. -/
theorem nodup_takerOrder (first : List TickTaker) {takers : List TickTaker} (h : takers.Nodup) :
    (takerOrder first takers).Nodup := by
  rw [takerOrder, List.nodup_append]
  refine ⟨(nodup_eraseDups first).filter _, h.filter _, ?_⟩
  intro a ha b hb hab
  subst hab
  have h1 := (List.mem_filter.mp ha).1
  have h2 := (List.mem_filter.mp hb).2
  rw [mem_eraseDups] at h1
  simp [h1] at h2

/-- So it reaches each of them once. -/
theorem count_takerOrder (first : List TickTaker) {takers : List TickTaker} (h : takers.Nodup)
    {t : TickTaker} (ht : t ∈ takers) : (takerOrder first takers).count t = 1 :=
  List.count_eq_one_of_mem (nodup_takerOrder first h) ((mem_takerOrder first takers t).mpr ht)

/-- Without an order given, the takers are reached in the model's own order. -/
theorem takerOrder_nil (takers : List TickTaker) : takerOrder [] takers = takers := by
  simp [takerOrder]

/-! ### A part of a tick taken ahead (log 4) -/

theorem takenEarly_iff (x : TickPart) (s : State) :
    takenEarly x s = true ↔ x ∈ s.prescaler.early := by simp [takenEarly]

theorem takenEarly_false_iff (x : TickPart) (s : State) :
    takenEarly x s = false ↔ x ∉ s.prescaler.early := by simp [takenEarly]

@[simp] theorem takeEarly_prescaler (x : TickPart) (s : State) :
    (takeEarly x s).prescaler = { s.prescaler with early := x :: s.prescaler.early } := rfl

@[simp] theorem takeEarly_store (x : TickPart) (s : State) :
    (takeEarly x s).store = s.store := rfl

@[simp] theorem takeEarly_ports (x : TickPart) (s : State) :
    (takeEarly x s).ports = s.ports := rfl

@[simp] theorem takeEarly_portsUp (x : TickPart) (s : State) :
    (takeEarly x s).portsUp = s.portsUp := rfl

@[simp] theorem takeEarly_resetLow (x : TickPart) (s : State) :
    (takeEarly x s).resetLow = s.resetLow := rfl

@[simp] theorem takeEarly_arbiterPointer (x : TickPart) (s : State) :
    (takeEarly x s).arbiterPointer = s.arbiterPointer := rfl

@[simp] theorem takeEarly_queue (x : TickPart) (s : State) :
    (takeEarly x s).queue = s.queue := rfl

@[simp] theorem takeEarly_engine (x : TickPart) (s : State) :
    (takeEarly x s).engine = s.engine := rfl

@[simp] theorem takeEarly_captureQueue (x : TickPart) (s : State) :
    (takeEarly x s).captureQueue = s.captureQueue := rfl

@[simp] theorem takeEarly_slots (x : TickPart) (s : State) :
    (takeEarly x s).slots = s.slots := rfl

@[simp] theorem takeEarly_claim (x : TickPart) (s : State) :
    (takeEarly x s).claim = s.claim := rfl

@[simp] theorem takeEarly_reopen (x : TickPart) (s : State) :
    (takeEarly x s).reopen = s.reopen := rfl

@[simp] theorem takeEarly_lineHistory (x : TickPart) (s : State) :
    (takeEarly x s).lineHistory = s.lineHistory := rfl

@[simp] theorem takeEarly_inputs (x : TickPart) (s : State) :
    (takeEarly x s).inputs = s.inputs := rfl

@[simp] theorem takeEarly_converterPointer (x : TickPart) (s : State) :
    (takeEarly x s).converterPointer = s.converterPointer := rfl

@[simp] theorem takeEarly_recognizer (x : TickPart) (s : State) :
    (takeEarly x s).recognizer = s.recognizer := rfl

@[simp] theorem takeEarly_latch (x : TickPart) (s : State) :
    (takeEarly x s).latch = s.latch := rfl

@[simp] theorem takeEarly_closeState (x : TickPart) (s : State) :
    (takeEarly x s).closeState = s.closeState := rfl

@[simp] theorem takeEarly_currentClose (x : TickPart) (s : State) :
    (takeEarly x s).currentClose = s.currentClose := rfl

@[simp] theorem takeEarly_doneOwed (x : TickPart) (s : State) :
    (takeEarly x s).doneOwed = s.doneOwed := rfl

@[simp] theorem takeEarly_building (x : TickPart) (s : State) :
    (takeEarly x s).building = s.building := rfl

@[simp] theorem takeEarly_accumulators (x : TickPart) (s : State) :
    (takeEarly x s).accumulators = s.accumulators := rfl

@[simp] theorem takeEarly_intervalPartial (x : TickPart) (s : State) :
    (takeEarly x s).intervalPartial = s.intervalPartial := rfl

@[simp] theorem takeEarly_supply (x : TickPart) (s : State) :
    (takeEarly x s).supply = s.supply := rfl

@[simp] theorem takeEarly_pfailAsserted (x : TickPart) (s : State) :
    (takeEarly x s).pfailAsserted = s.pfailAsserted := rfl

@[simp] theorem takeEarly_retainDuration (x : TickPart) (s : State) :
    (takeEarly x s).retainDuration = s.retainDuration := rfl

@[simp] theorem takeEarly_freeIndex (x : TickPart) (s : State) :
    (takeEarly x s).freeIndex = s.freeIndex := rfl

@[simp] theorem takeEarly_pending (x : TickPart) (s : State) :
    (takeEarly x s).pending = s.pending := rfl

/-! ### Leases taken ahead, in slot order (R128) -/

theorem mem_slotsUpTo (i j : SnapId) : j ∈ slotsUpTo i ↔ j ≤ i := by
  revert i j; decide

theorem nodup_slotsUpTo (i : SnapId) : (slotsUpTo i).Nodup := by revert i; decide

theorem leaseAhead_of_mem {s : State} {i : SnapId} (h : TickPart.lease i ∈ s.prescaler.early) :
    leaseAhead s i = s := if_pos ((takenEarly_iff _ s).mpr h)

theorem leaseAhead_of_not_mem {s : State} {i : SnapId} (h : TickPart.lease i ∉ s.prescaler.early) :
    leaseAhead s i = takeEarly (.lease i) (leaseTick s i) :=
  if_neg fun hm => h ((takenEarly_iff _ s).mp hm)

/-! ### The ratios of the ticks (R133) -/

theorem sampleFalls_iff (s : State) : sampleFalls s = true ↔
    s.supply ≠ .unpowered ∧ s.prescaler.samples ≤ 1023
      ∧ ¬(s.prescaler.samples = 0 ∧ s.prescaler.seconds = 60) := by
  unfold sampleFalls powered
  rw [Bool.and_eq_true, Bool.and_eq_true, Bool.not_eq_true', bne_iff_ne, decide_eq_true_eq,
    Bool.eq_false_iff, ne_eq (_ && _), Bool.and_eq_true, beq_iff_eq, beq_iff_eq, and_assoc]

theorem secondFalls_iff (s : State) : secondFalls s = true ↔
    s.supply ≠ .unpowered ∧ 1023 ≤ s.prescaler.samples := by
  simp [secondFalls, powered]

theorem minuteFalls_iff (s : State) : minuteFalls s = true ↔
    s.supply ≠ .unpowered ∧ ((s.prescaler.seconds = 60 ∧ s.prescaler.samples ≤ 0)
      ∨ (s.prescaler.seconds = 59 ∧ 1023 ≤ s.prescaler.samples)) := by
  simp [minuteFalls, powered]

/-- A sample tick keeps the ratios. -/
theorem phaseLaw_sampleCounted {s t : State} (h : PhaseLaw s) (hf : sampleFalls s = true)
    (ht : t.prescaler = sampleCounted s.prescaler) : PhaseLaw t := by
  have hf := (sampleFalls_iff s).mp hf
  simp only [PhaseLaw, ht, sampleCounted] at h ⊢
  omega

/-- A second tick keeps the ratios. -/
theorem phaseLaw_secondCounted {s t : State} (h : PhaseLaw s) (hf : secondFalls s = true)
    (ht : t.prescaler = secondCounted s.prescaler) : PhaseLaw t := by
  have hf := (secondFalls_iff s).mp hf
  simp only [PhaseLaw, ht, secondCounted] at h ⊢
  omega

/-- A minute tick keeps the ratios. -/
theorem phaseLaw_minuteCounted {s t : State} (h : PhaseLaw s) (hf : minuteFalls s = true)
    (ht : t.prescaler = minuteCounted s.prescaler) : PhaseLaw t := by
  have hf := (minuteFalls_iff s).mp hf
  simp only [PhaseLaw, ht, minuteCounted] at h ⊢
  omega

end Sys2Proof.Machine
end

