-- ==== Sys2Proof/Laws/Totals.lean ====
section
/-! SUPPORT. A register's total: below the capacity whatever its cells hold, and read back as it was
written. -/

namespace Sys2Proof.Machine

/-- The total of a register of at most 12 digits is below its capacity (R4). -/
theorem registerTotal_lt_capacity {k : Nat} {r : RegisterRec} (hk : k ≤ 3)
    (hd : r.digits.toNat ≤ 12) : registerTotal k r < capacity k r := by
  have hv : digitsToNat (heldValue r) < 10 ^ r.digits.toNat := digitsToNat_lastDigits_lt hd r.value
  have hr : digitsToNat (heldResidue k r) < 10 ^ k := digitsToNat_lastDigits_lt hk r.residue
  calc registerTotal k r
      < digitsToNat (heldValue r) * 10 ^ k + 10 ^ k := Nat.add_lt_add_left hr _
    _ = (digitsToNat (heldValue r) + 1) * 10 ^ k := by ring
    _ ≤ 10 ^ r.digits.toNat * 10 ^ k := Nat.mul_le_mul_right _ hv
    _ = capacity k r := by rw [capacity, Nat.pow_add]

/-- A total below the capacity is read back as it was written (R4). -/
theorem registerTotal_withTotal {k n : Nat} {r : RegisterRec} (hk : k ≤ 3)
    (hd : r.digits.toNat ≤ 12) (hn : n < capacity k r) : registerTotal k (withTotal k n r) = n := by
  have hp : 0 < 10 ^ k := Nat.pow_pos (by decide)
  have h1 : n / 10 ^ k < 10 ^ r.digits.toNat := by
    rw [Nat.div_lt_iff_lt_mul hp, ← Nat.pow_add]; exact hn
  have h2 : n % 10 ^ k < 10 ^ k := Nat.mod_lt _ hp
  have hv : digitsToNat (heldValue (withTotal k n r)) = n / 10 ^ k := by
    show digitsToNat (lastDigits r.digits.toNat (digitsOfNat 12 (n / 10 ^ k))) = _
    rw [lastDigits_digitsOfNat h1]
    exact digitsToNat_digitsOfNat_of_lt
      (Nat.lt_of_lt_of_le h1 (Nat.pow_le_pow_right (by decide) hd))
  have hr : digitsToNat (heldResidue k (withTotal k n r)) = n % 10 ^ k := by
    show digitsToNat (lastDigits k (digitsOfNat 3 (n % 10 ^ k))) = _
    rw [lastDigits_digitsOfNat h2]
    exact digitsToNat_digitsOfNat_of_lt
      (Nat.lt_of_lt_of_le h2 (Nat.pow_le_pow_right (by decide) hk))
  rw [registerTotal, hv, hr, Nat.mul_comm]
  exact Nat.div_add_mod n (10 ^ k)

end Sys2Proof.Machine
end

