-- ==== Sys2Proof/Tests/Slice0.lean ====
section
/-! SUPPORT. Small tests: the checks on terms, bytes written out from the layouts, one step of every row,
and for every statement a state and operands that meet its hypotheses. -/

namespace Sys2Proof.Tests

open Sys2Proof.Machine

-- one thread: each would take a stack of its own
set_option Elab.async false

/-! ### Small states -/

/-- A register on Q0 with six digits, holding a total, its check word fitting its slot. -/
def reg (i : RegSlot) (sel : Nat) (pol : Policy) (reset : Bool) (total : Nat) : RegisterRec :=
  let r := withTotal 3 total
    { freeRegister with
      state := .live, selector := BitVec.ofNat 3 sel, digits := 6, policy := pol, archive := true,
      periodReset := reset }
  { r with check := registerCheck i 3 r }

/-- SETUP with the claim at P0: Q0 (scale 3) and Q1 defined, slot 0 bound to T1 with WRAP, slot 1 to ALL
with STOP and period reset. -/
def inSetup : State :=
  { onConfiguration (fun st =>
      { st with
        quantities := (st.quantities.set 0 ⟨true, 3⟩).set 1 ⟨true, 0⟩
        registers := (st.registers.set 0 (reg 0 0 .wrap false 5)).set 1 (reg 1 4 .stop true 7) })
      State.reset with claim := some 0 }

/-- RUN: the same, with D0 on Q0, an input on Q0, three chains whose next tick is their expiry, and the three
ticks about to fall together. -/
def inRun : State :=
  { onConfiguration (fun st =>
      { st with
        mode := .run
        channels := st.channels.set 0 ⟨some 0, zeroMaxima⟩
        pulseDefs := st.pulseDefs.set 0 { factoryPulseDef with enabled := true }
        closeOptions := ⟨.edge, true, true⟩
        chains := ⟨⟨0, 1, .minute, 3, .running, 1⟩, ⟨1, 2, .minute, 9, .running, 1⟩,
          ⟨3, 1, .second, 2, .running, 1⟩⟩ })
      inSetup with
    claim := none
    engine := .ready
    prescaler := ⟨1023, 59, []⟩
    inputs := State.reset.inputs.set 0 { disabledInput with frontEnd := .armed } }

/-- The same with the inhibit over. -/
def free : State := onChain .inhibit (fun c => { c with state := .expired, count := 0 }) inRun

/-- ENTERING_SETUP, its REOPEN from P0. -/
def entering : State :=
  { onStore (fun st => { st with mode := .enteringSetup }) inRun with reopen := some ⟨0, true⟩ }

/-- A register's check word spoiled. -/
def spoiled (i : RegSlot) (s : State) : State :=
  setRegister i { s.store.registers[i] with check := ~~~ s.store.registers[i].check } s

/-- A register made SUSPECT. -/
def suspect (i : RegSlot) (s : State) : State :=
  putRegister i { s.store.registers[i] with state := .suspect } s

/-- P0 with a POST of 2 units of Q0 at the arbiter. -/
def posting (s : State) : State :=
  onPort 0 (fun q =>
    { q with
      execution := some ⟨⟨.postIncrement, [0, 0, 0, 0, 2, 9]⟩, true⟩
      wire := .waitBytes }) s

/-- An entry of Q0 in the queue. -/
def entry (amount : Nat) : Increment := ⟨0, amount, .t1, .port 0⟩

/-- S0 held by P0 with one entry. -/
def holding (remaining : Nat) (s : State) : State :=
  let slot : SnapSlot :=
    .held ⟨0, [0], 9⟩ remaining [capturedEntry 0 3 (reg 0 0 .wrap false 5)] ⟨4, 1, .t2⟩
  { s with slots := s.slots.set 0 slot }

/-- S0 pending for P0, its request waiting. -/
def opened (s : State) : State :=
  { s with slots := s.slots.set 0 (.pending ⟨0, [1, 0], 9⟩), captureQueue := [0] }

/-- S0 being captured for P0. -/
def capturingS0 (s : State) : State :=
  { opened s with captureQueue := [], engine := .capturing 0 false [] ⟨4, 1, .t1⟩ }

/-- A log with one record of 14 bytes. -/
def logged (s : State) : State :=
  let bytes := recordBytes (recordHeader s.store ⟨.line, none⟩ 0 0) []
  onStore (fun st => { st with log := logOf [⟨14, false, bytes⟩] }) s

/-- A close in WRITING. -/
def writing (cause : Cause) (s : State) : State :=
  { s with
    closeState := .writing, engine := .closing, currentClose := some ⟨cause, none⟩
    building := some ⟨buildRecord s.store ⟨cause, none⟩, 0⟩ }

/-- The remaining lease of a slot. -/
def remainingOf : SnapSlot → Nat
  | .held _ remaining _ _ => remaining
  | .free | .pending _ => 0

/-- Input 0 with its third verification sample due. -/
def verifying (active : Nat) (s : State) : State :=
  onInput 0 (fun i =>
    { i with frontEnd := .verifying, samplesTaken := 2, samplesActive := active, elapsed := 2 }) s

/-- Input 0 with a count and its mark. -/
def counted (pending : Nat) (s : State) : State :=
  onCount 0 (fun c => { c with pending := pending })
    (onInput 0 (fun i => { i with eligible := true }) s)

def inDrain (s : State) : State := { s with supply := .drain, pfailAsserted := true }
def inRetain (s : State) : State := { loseVolatile s with supply := .retain, pfailAsserted := true }
def inLines (s : State) : State := onStore (fun st => { st with sourceMode := .lines }) s

/-- Whether a row goes to a next state that has a property. -/
def goesTo (i : Instr) (s : State) (f : State → Bool) : Bool :=
  match exec i s with
  | .next t => f t
  | .fault _ | .refused _ => false

/-- Whether P0 then holds a response with a status and data. -/
def responds (st : Status) (data : List Byte) (t : State) : Bool :=
  match t.ports[0].wire with
  | .response r => r.status == st && r.data == data
  | .quiet | .waitBytes => false

/-! ### Terms that are not well formed -/

theorem test_args_of_60_bytes_are_well_formed :
    (Instr.readStatus 0 (List.replicate 60 0)).wellFormed = true := by decide +kernel

theorem test_args_of_61_bytes_are_not :
    (Instr.readStatus 0 (List.replicate 61 0)).wellFormed = false := by decide +kernel

theorem test_unknown_command_with_61_bytes_is_not :
    (Instr.unknownCommand 0 0x99 (List.replicate 61 0)).wellFormed = false := by decide +kernel

theorem test_unknown_command_with_a_known_code_is_not :
    (Instr.unknownCommand 0 0x01 []).wellFormed = false
      ∧ (Instr.unknownCommand 0 0x99 []).wellFormed = true := by decide +kernel

theorem test_second_tick_with_a_taker_twice_is_not :
    (Instr.secondTick true true [.lines, .lines]).wellFormed = false
      ∧ (Instr.secondTick true true [.lines, .leases]).wellFormed = true := by decide +kernel

theorem test_second_tick_with_a_foreign_taker_is_not :
    (Instr.secondTick true true [.duration]).wellFormed = false := by decide +kernel

theorem test_minute_tick_with_a_foreign_taker_is_not :
    (Instr.minuteTick [.marks]).wellFormed = false := by decide +kernel

theorem test_minute_tick_with_a_taker_twice_is_not :
    (Instr.minuteTick [.duration, .duration]).wellFormed = false
      ∧ (Instr.minuteTick [.duration, .chain .demand]).wellFormed = true := by decide +kernel

/-! ### Bytes written out from the layouts -/

/-- R146: READ STATUS without arguments is the frame 01 00 15. -/
theorem test_frame_of_read_status : decodeFrame 0 [0x01, 0x00, 0x15] = .readStatus 0 [] := by
  decide +kernel

/-- The same frame bit by bit, most significant bit first, with bytes after it that are ignored. -/
theorem test_bits_of_read_status :
    decodeBits 1 [false, false, false, false, false, false, false, true,
                  false, false, false, false, false, false, false, false,
                  false, false, false, true, false, true, false, true, true]
      = .readStatus 1 [] := by decide +kernel

theorem test_frame_cut_short : decodeFrame 2 [0x01, 0x00] = .frameDiscarded 2 := by decide +kernel

theorem test_frame_with_a_wrong_check_byte :
    decodeFrame 2 [0x01, 0x00, 0x16] = .frameError 2 := by decide +kernel

theorem test_length_byte_of_61 : decodeFrame 2 [0x01, 61] = .lengthByteAbove60 2 := by
  decide +kernel

theorem test_length_byte_of_60_waits_for_its_bytes :
    decodeFrame 2 [0x01, 60] = .frameDiscarded 2 := by decide +kernel

/-- R164, R165, R157: the response to READ STATUS after reset, byte by byte. -/
theorem test_response_bytes_of_read_status :
    goesTo (.readStatus 0 []) State.reset (fun t =>
      responseBytes t 0
        == some [0xA5, 0x00, 0x05, 0x0F, 0x01, 0x00, 0x00, 0x01, 0x00, 0x00, 0x00, 0x00, 0x00, 0x00,
          0x00, 0x00, 0x00, 0xFF, 0x00, 0x17]) = true := by decide +kernel

/-- R145, R147: EE until there is a result, then the response with the flags of its start byte, though a notice
comes after it, then FF; and nothing with chip select high. -/
theorem test_bytes_driven_around_a_frame_error :
    let quiet : State := onPort 0 (fun q => { q with notices := [], attn := false }) inRun
    goesTo (.frameError 0) quiet (fun t =>
      let noticed := raise (restoredNotice true 0) t
      drivenByte t 0 .unselected == none && drivenByte t 0 .request == some 0xEE
        && drivenBytes 0 .waiting ([posting quiet, t, noticed, noticed, noticed, noticed, noticed].map
            fun u => (u, true))
          == [some 0xEE, some 0xA5, some 0x10, some 0x00, some 0x00, some (crc8 [0x10, 0, 0]),
            some 0xFF]) = true := by decide +kernel

/-- R159: a request that RESET meets between two bytes drives nothing more, RESET high again included, and a
new frame drives wait bytes. -/
theorem test_request_abandoned_by_reset_drives_nothing :
    goesTo .resetPin inRun (fun low =>
      goesTo .resetPinRelease low (fun high =>
        drivenBytes 0 .request [(inRun, true), (low, false), (high, true), (high, true)]
          == [some 0xEE, none, none]
        && drivenBytes 0 .request [(high, true)] == [some 0xEE])) = true := by decide +kernel

/-- R4: with 6 digits only the lowest 6 cells are held. -/
theorem test_cells_past_the_digits_are_not_held :
    lastDigits 6 (digitsOfNat 12 987654321012) = digitsOfNat 12 321012
      ∧ heldResidue 0 (reg 0 0 .wrap false 5) = digitsOfNat 3 0
      ∧ registerTotal 0 { reg 0 0 .wrap false 5 with value := digitsOfNat 12 9000007 } = 7 := by
  decide +kernel

/-- The 16-bit CRC of the digits 1 to 9 as ASCII, the usual check value of this CRC. -/
theorem test_crc16_check_value :
    crc16 [0x31, 0x32, 0x33, 0x34, 0x35, 0x36, 0x37, 0x38, 0x39] = 0x29B1#16 := by decide +kernel

theorem test_crc8_check_value :
    crc8 [0x31, 0x32, 0x33, 0x34, 0x35, 0x36, 0x37, 0x38, 0x39] = 0xF4#8 := by decide +kernel

theorem test_packed_decimal : packedDecimal 4 1234567 = [0x01, 0x23, 0x45, 0x67] := by decide +kernel

/-- R10: a six-digit register of scale 0 at 999,999 given the largest amount wraps 100 times. -/
theorem test_wrap_100_times :
    let r := { reg 0 0 .wrap false 0 with value := digitsOfNat 12 999999 }
    registerTotal 0 (applyAmount 0 99999999 r) = 999998
      ∧ (applyAmount 0 99999999 r).wrapCount = 15 := by decide +kernel

/-- R59: the largest conversion gives 99,980,001. -/
theorem test_largest_conversion :
    conversionProduct { factoryPulseDef with mantissa := 9999 } ⟨65535, 0, 0, 0, false⟩ = 99980001 := by
  decide +kernel

/-! ### One step of every row -/

theorem test_step_takes_the_front :
    (match step { State.reset with pending := [.resetPin, .resetPinRelease] } with
      | .next t => t.resetLow && t.pending == [.resetPinRelease]
      | _ => false) = true := by decide +kernel

theorem test_read_status :
    goesTo (.readStatus 0 []) inRun (fun t => t.ports[0].lastResult == some ⟨1, 0, .ok, 0⟩) = true := by
  decide +kernel

theorem test_read_register :
    goesTo (.readRegister 0 [0]) inRun
      (responds .ok [0, 1, 0, 0, 6, 3, 2, 0, 0, 0, 0, 0, 0, 0, 5, 0, 0, 0, 0, 0]) = true := by
  decide +kernel

theorem test_read_last_result :
    goesTo (.readLastResult 0 []) inRun (responds .ok [0, 0, 0, 0, 0, 0, 0, 0]) = true := by
  decide +kernel

theorem test_read_notices :
    goesTo (.readNotices 0 []) State.reset
      (fun t => responds .ok [1, 0, 0, 9, 1, 0, 0, 0, 0] t && !t.ports[0].attn) = true := by
  decide +kernel

theorem test_set_notice_mask :
    goesTo (.setNoticeMask 0 [0x11]) inRun (fun t => t.ports[0].mask == 0x11#6) = true := by
  decide +kernel

theorem test_port_reset :
    goesTo (.portReset 0 []) (holding 3 inSetup)
      (fun t => t.slots[0] == .free && t.claim == none && t.ports[0].notices == []) = true := by
  decide +kernel

theorem test_post_increment :
    goesTo (.postIncrement 0 [0, 0, 0, 0, 2, 9]) inRun
      (fun t => t.ports[0].wire == .waitBytes && postWaits t 0 && t.queue == []) = true := by
  decide +kernel

theorem test_set_tariff :
    goesTo (.setTariff 0 [2]) inRun
      (fun t => t.store.activeTariff == .t3 && responds .ok [0, 2] t) = true := by decide +kernel

theorem test_request_close :
    goesTo (.requestClose 0 []) free
      (fun t => t.closeState == .requested && responds .accepted [0, 1] t) = true := by decide +kernel

theorem test_read_log :
    goesTo (.readLog 0 [0, 0, 0, 0, 0]) (logged (onStore (fun st => { st with periodNumber := 2 }) inRun))
      (fun t => match t.ports[0].wire with
        | .response r => r.status == .ok && r.data.length == 20 && r.data.take 4 == [0, 1, 0, 14]
        | _ => false) = true := by decide +kernel

theorem test_read_demand :
    goesTo (.readDemand 0 [1]) inRun (responds .ok
      ([1, 0xFF, 0, 0, 0, 0, 0] ++ List.replicate 28 0 ++ [0, 0, 1, 0, 0, 0, 0])) = true := by
  decide +kernel

theorem test_read_pulse_input :
    goesTo (.readPulseInput 0 [0, 1]) (onCount 0 (fun c => { c with reject := 3 }) inRun)
      (fun t => t.store.pulseCounts[0].reject == 0 && responds .ok
        [0, 1, 0, 1, 1, 1, 0, 0, 1, 0, 1, 1, 0, 0, 0, 0, 0, 0, 3, 0, 0] t) = true := by decide +kernel

theorem test_snapshot_open :
    goesTo (.snapshotOpen 0 [9, 1, 0]) inRun
      (fun t => t.slots[0] == .pending ⟨0, [1, 0], 9⟩ && t.captureQueue == [0]) = true := by
  decide +kernel

theorem test_snapshot_read :
    goesTo (.snapshotRead 0 [0, 0, 4]) (holding 3 inRun)
      (responds .ok ([0, 1, 3, 0, 0, 0, 4, 0, 1, 1, 0, 1]
        ++ capturedEntryBytes (capturedEntry 0 3 (reg 0 0 .wrap false 5)))) = true := by decide +kernel

theorem test_snapshot_renew :
    goesTo (.snapshotRenew 0 [0]) (holding 3 inRun) (responds .ok [0, 9]) = true := by decide +kernel

theorem test_snapshot_release :
    goesTo (.snapshotRelease 0 [0]) (holding 3 inRun) (fun t => t.slots[0] == .free) = true := by
  decide +kernel

theorem test_claim_setup :
    goesTo (.claimSetup 0 []) State.reset (fun t => t.claim == some 0) = true := by decide +kernel

theorem test_release_setup :
    goesTo (.releaseSetup 0 []) inSetup (fun t => t.claim == none) = true := by decide +kernel

theorem test_define_quantity :
    goesTo (.defineQuantity 0 [7, 1, 3]) inSetup
      (fun t => t.store.quantities[7] == ⟨true, 3⟩) = true := by decide +kernel

theorem test_bind_register :
    goesTo (.bindRegister 0 [31, 0, 1, 12, 0, 1, 0]) inSetup
      (fun t => t.store.registers[31].state == .live
        && checkMatches t 31 t.store.registers[31]) = true := by decide +kernel

theorem test_unbind_register :
    goesTo (.unbindRegister 0 [0]) inSetup (fun t => t.store.registers[0] == freeRegister) = true := by
  decide +kernel

theorem test_set_register_options :
    goesTo (.setRegisterOptions 0 [0, 1, 0, 1]) inSetup
      (fun t => t.store.registers[0].policy == .stop && t.store.registers[0].periodReset) = true := by
  decide +kernel

theorem test_clear_register :
    goesTo (.clearRegister 0 [0]) inSetup
      (fun t => registerTotal 3 t.store.registers[0] == 0) = true := by decide +kernel

theorem test_accept_register :
    goesTo (.acceptRegister 0 [0]) (suspect 0 inSetup)
      (fun t => t.store.registers[0] == reg 0 0 .wrap false 5) = true := by decide +kernel

theorem test_define_pulse_input :
    goesTo (.definePulseInput 0 [7, 1, 1, 0, 8, 255, 1, 0x99, 0x99, 3, 255, 1]) inSetup
      (fun t => t.store.pulseDefs[7] == ⟨true, true, false, 8, 255, 1, 9999, 3, 255⟩
        && t.inputs[7].frontEnd == .armed) = true := by decide +kernel

theorem test_define_demand_channel :
    goesTo (.defineDemandChannel 0 [3, 1]) inSetup
      (fun t => t.store.channels[3].quantity == some 1) = true := by decide +kernel

theorem test_define_chain :
    goesTo (.defineChain 0 [2, 0, 1, 3, 1, 0, 0, 0, 0, 0, 60]) inSetup
      (fun t => t.store.chains.inhibit == ⟨1, 3, .minute, 60, .stopped, 0⟩) = true := by decide +kernel

theorem test_set_tariff_source :
    goesTo (.setTariffSource 0 [1, 1, 3]) inSetup
      (fun t => t.store.sourceMode == .lines && t.store.activeTariff == .t4
        && responds .ok [1, 3] t) = true := by decide +kernel

theorem test_set_close_options :
    goesTo (.setCloseOptions 0 [2, 1, 0]) inSetup
      (fun t => t.store.closeOptions == ⟨.level, true, false⟩) = true := by decide +kernel

theorem test_set_rights :
    goesTo (.setRights 0 [2, 0x80, 0x0F]) inSetup
      (fun t => t.store.rights[2] == ⟨0x80, true, true, true, true⟩) = true := by decide +kernel

theorem test_clear_log :
    goesTo (.clearLog 0 []) (logged inSetup) (fun t => t.store.log == logOf []) = true := by
  decide +kernel

theorem test_commit :
    goesTo (.commit 0 []) inSetup
      (fun t => t.store.mode == .run && t.engine == .ready && t.claim == none) = true := by
  decide +kernel

theorem test_reopen :
    goesTo (.reopen 0 []) inRun
      (fun t => t.store.mode == .enteringSetup && t.reopen == some ⟨0, true⟩) = true := by
  decide +kernel

theorem test_read_configuration :
    goesTo (.readConfiguration 0 [6, 0]) inRun (responds .ok [6, 0, 0xFF, 0x0F]) = true := by
  decide +kernel

theorem test_unknown_command :
    goesTo (.unknownCommand 0 0x99 []) inRun
      (fun t => responds .unknownCommand [] t
        && t.ports[0].lastResult == some ⟨0x99, 0, .unknownCommand, 0⟩) = true := by decide +kernel

theorem test_frame_error :
    goesTo (.frameError 0) inRun
      (fun t => responds .frameError [] t && t.ports[0].lastResult == none) = true := by decide +kernel

theorem test_frame_discarded :
    goesTo (.frameDiscarded 0) (posting inRun)
      (fun t => t.ports[0].wire == .quiet && postWaits t 0) = true := by decide +kernel

theorem test_length_byte_above_60 :
    goesTo (.lengthByteAbove60 0) inRun (fun t => t.ports[0].wire == .waitBytes) = true := by
  decide +kernel

theorem test_read_notices_response_lost :
    goesTo (.readNotices 0 []) State.reset (fun t =>
      goesTo (.readNoticesResponseLost 0) t (fun u => u.ports[0].overrun)) = true := by
  decide +kernel

theorem test_port_grant :
    goesTo .portGrant (posting inRun)
      (fun t => t.queue == [entry 2] && responds .ok [1] t && t.arbiterPointer == .port 0) = true := by
  decide +kernel

theorem test_conversion :
    goesTo .conversion (counted 3 inRun)
      (fun t => t.queue == [⟨0, 3, .t1, .converter⟩] && t.converterPointer == 0) = true := by
  decide +kernel

theorem test_application_start :
    goesTo .applicationStart { inRun with queue := [entry 2] }
      (fun t => t.queue == [] && (targetsInFlight t.engine).map (·.slot) == [0, 1]) = true := by
  decide +kernel

theorem test_application_completion :
    goesTo .applicationCompletion
      { inRun with engine := .applying (entry 2) [⟨0, reg 0 0 .wrap false 5⟩] }
      (fun t => registerTotal 3 t.store.registers[0] == 7 && t.store.applicationCounter == 1
        && t.accumulators[0] == 2) = true := by decide +kernel

theorem test_capture_start :
    goesTo .captureStart (opened inRun) (fun t => capturing t && t.captureQueue == []) = true := by
  decide +kernel

theorem test_capture_completion :
    goesTo .captureCompletion { opened inRun with engine := .capturing 0 false [] ⟨4, 1, .t1⟩ }
      (fun t => t.slots[0] == .held ⟨0, [1, 0], 9⟩ 9 [] ⟨4, 1, .t1⟩ && t.engine == .ready) = true := by
  decide +kernel

theorem test_writing_start :
    goesTo .writingStart (takeClose .line none inRun)
      (fun t => t.engine == .closing
        && (t.building.map (·.bytes.length)).getD 0 == 32) = true := by decide +kernel

theorem test_close_completion :
    goesTo .closeCompletion (writing .line inRun)
      (fun t => t.store.periodNumber == 2 && t.store.log.entries.length == 1
        && registerTotal 3 t.store.registers[1] == 0 && registerTotal 3 t.store.registers[0] == 5)
      = true := by decide +kernel

theorem test_setup_close_placement :
    goesTo .setupClosePlacement entering
      (fun t => t.closeState == .requested && t.currentClose == some ⟨.setup, some 0⟩) = true := by
  decide +kernel

theorem test_sample_tick :
    goesTo (.sampleTick 0 true) inRun
      (fun t => t.prescaler == ⟨1024, 59, []⟩ && t.recognizer == ⟨.unknown, true, 1⟩) = true := by
  decide +kernel

theorem test_second_tick :
    goesTo (.secondTick false false []) (holding 2 inRun)
      (fun t => remainingOf t.slots[0] == 1 && t.prescaler == ⟨-1, 60, []⟩
        && t.store.chains.inhibit.state == .expired) = true := by decide +kernel

theorem test_minute_tick :
    goesTo (.minuteTick [.chain .overdue]) free
      (fun t => t.store.periodDuration == 1 && t.closeState == .requested
        && t.prescaler == ⟨1023, -1, []⟩) = true := by decide +kernel

/-- The 1024th sample tick, its second tick and its minute tick, in an order that is not theirs by number. -/
theorem test_ticks_that_fall_together_leave_the_phase_zero :
    goesTo (.minuteTick []) free (fun t =>
      goesTo (.secondTick false false []) t (fun u =>
        goesTo (.sampleTick 0 true) u (fun v => v.prescaler == ⟨0, 0, []⟩))) = true := by
  decide +kernel

/-- R133: no second tick falls between two that are 1024 sample ticks apart. -/
theorem test_no_second_tick_after_1022_samples :
    goesTo (.secondTick false false []) { inRun with prescaler := ⟨1022, 59, []⟩ }
      (fun t => t.prescaler == ⟨1022, 59, []⟩ && t.store.chains == inRun.store.chains) = true := by
  decide +kernel

/-- A chain that took its tick ahead does not take it again. -/
theorem test_tick_taken_ahead_is_taken_once :
    goesTo .demandExpiry inRun (fun t =>
      t.prescaler == ⟨1023, 59, [.chain .minute .demand]⟩
        && goesTo (.minuteTick []) t (fun u =>
          u.store.chains.demand.count == 3 && u.prescaler == ⟨1023, -1, []⟩)) = true := by
  decide +kernel

theorem test_pulse_judgement :
    goesTo (.pulseJudgement 0 false) (verifying 2 inRun)
      (fun t => t.store.pulseCounts[0].pending == 1 && t.inputs[0].frontEnd == .latched) = true := by
  decide +kernel

theorem test_rearm_complete :
    goesTo (.rearmComplete 0) (onInput 0 (fun i => { i with frontEnd := .rearming }) inRun)
      (fun t => t.inputs[0].frontEnd == .armed) = true := by decide +kernel

theorem test_recognized_falling_edge :
    goesTo .recognizedFallingEdge { free with recognizer := ⟨.high, false, 2⟩ }
      (fun t => t.closeState == .requested && t.currentClose == some ⟨.line, none⟩) = true := by
  decide +kernel

theorem test_recognized_rising_edge :
    goesTo .recognizedRisingEdge { free with recognizer := ⟨.low, true, 2⟩ }
      (fun t => t.recognizer.level == .high) = true := by decide +kernel

theorem test_demand_expiry :
    goesTo .demandExpiry { inRun with accumulators := inRun.accumulators.set 0 44 }
      (fun t => t.store.channels[0].maxima[0] == ⟨44, 0⟩ && t.accumulators[0] == 0
        && t.store.chains.demand.count == 3) = true := by decide +kernel

theorem test_overdue_expiry :
    goesTo .overdueExpiry free (fun t => t.currentClose == some ⟨.overdue, none⟩) = true := by
  decide +kernel

theorem test_inhibit_expiry :
    goesTo .inhibitExpiry (onStore (fun st => { st with overdueHeld := true }) inRun)
      (fun t => t.currentClose == some ⟨.overdue, none⟩ && !t.store.overdueHeld) = true := by
  decide +kernel

theorem test_lease_expiry :
    goesTo (.leaseExpiry 0) (holding 1 inRun)
      (fun t => t.slots[0] == .free
        && t.ports[0].notices.getLast? == some ⟨.lease, 0, 9, 0, 4, 0⟩) = true := by decide +kernel

/-- R128: two leases that expire at one second tick raise their notices in slot order, whichever row comes. -/
theorem test_leases_expire_in_slot_order :
    let s := holding 1 inRun
    goesTo (.leaseExpiry 2) { s with slots := s.slots.set 2 s.slots[0] }
      (fun t => t.slots[0] == .free && t.slots[2] == .free
        && (t.ports[0].notices.drop s.ports[0].notices.length).map (·.subject) == [0, 2]
        && t.prescaler.early == [.lease 2, .lease 1, .lease 0]) = true := by decide +kernel

theorem test_drain_entry :
    goesTo .drainEntry (posting inRun)
      (fun t => t.supply == .drain && responds .powerFail [] t && t.ports[0].notices == []) = true := by
  decide +kernel

theorem test_retain_entry :
    goesTo .retainEntry (inDrain inRun)
      (fun t => t.supply == .retain && t.engine == .halted && !t.portsUp) = true := by decide +kernel

set_option maxRecDepth 20000 in
theorem test_restore :
    goesTo (.restore false) (inRetain inRun)
      (fun t => t.supply == .runSupply && t.engine == .ready
        && t.ports[0].notices == [⟨.restored, 0, 0, 0, 0, 0⟩]) = true := by decide +kernel

set_option maxRecDepth 20000 in
theorem test_power_up :
    goesTo (.powerUp false) { loseVolatile inRun with supply := .unpowered }
      (fun t => t.supply == .retain
        && t.store == { inRun.store with
          chains := { inRun.store.chains with demand := ⟨0, 1, .minute, 3, .held, 3⟩ } }) = true := by
  decide +kernel

theorem test_reset_pin :
    goesTo .resetPin (posting inRun)
      (fun t => t.resetLow && t.ports[0].execution == none && t.ports[0].wire == .quiet) = true := by
  decide +kernel

theorem test_reset_pin_release :
    goesTo .resetPinRelease { inRun with resetLow := true } (fun t => !t.resetLow) = true := by
  decide +kernel

theorem test_loss_of_both_supplies :
    goesTo .lossOfBothSupplies inRun
      (fun t => t.supply == .unpowered && t.queue == [] && t.freeIndex == 1) = true := by
  decide +kernel

/-! ### For every statement, a state and operands that meet its hypotheses -/

/-- Whether a step answers a next state. -/
def stepsOn (s : State) : Bool :=
  match step s with
  | .next _ => true
  | .fault _ | .refused _ => false

theorem test_meets_StepRunsFrontCommandOrIdles : inRun.pending = [] := by decide +kernel

theorem test_meets_DecodeOfRequestIsTheCommand :
    ((Instr.readStatus 0 (List.replicate 60 0)).wellFormed = true
      ∧ requestOf (.readStatus 0 (List.replicate 60 0))
        = some (0, .readStatus, List.replicate 60 0))
    ∧ (Instr.unknownCommand 2 0xFF []).wellFormed = true
      ∧ requestOf (.unknownCommand 2 0xFF []) = some (2, .unknown 0xFF, []) := by decide +kernel

theorem test_meets_ReadsAnswerFromTheState :
    Takes 0 inRun ∧ Takes 2 State.reset ∧ 6 < (7#8).toNat ∧ 7 < (8#8).toNat ∧ 3 < (4#8).toNat
    ∧ 2 < (3#8).toNat ∧ 0 < (1#8).toNat := by decide +kernel

theorem test_meets_ReadNoticesRemovesTheOldest :
    Takes 0 (onPort 0 (fun q => { q with notices := List.replicate 8 (restoredNotice true 0) })
      inRun) := by decide +kernel

theorem test_meets_MaskWrittenAndPortReset :
    Takes 0 (holding 3 inSetup) ∧ (63#8).toNat < 64 ∧ 64 ≤ (64#8).toNat
      ∧ capturing (holding 3 inSetup) = false := by decide +kernel

theorem test_meets_FramesWithoutACommand :
    (listening inRun = true ∧ (Instr.unknownCommand 0 0x99 []).wellFormed = true
      ∧ inRun.ports[0].execution = none)
    ∧ (posting inRun).ports[0].wire = .waitBytes
    ∧ (setWire 0 (.response ⟨none, .frameError, []⟩) inRun).ports[0].wire
      = .response ⟨none, .frameError, []⟩ := by decide +kernel

theorem test_meets_LostNoticesSetOverrun :
    ∃ s : State, s.ports[0].wire = .response ⟨some .readNotices, .ok, [1, 0, 0]⟩
      ∧ arg [1, 0, 0] 0 ≠ 0 ∧ arg [0, 0, 0] 0 = 0 :=
  ⟨setWire 0 (.response ⟨some .readNotices, .ok, [1, 0, 0]⟩) inRun, by decide +kernel⟩

theorem test_meets_CommonChecksInOrder :
    (listening inRun = true ∧ inRun.ports[0].execution = none)
    ∧ (requestOf (.readStatus 0 [1]) = some (0, .readStatus, [1]) ∧ known .readStatus = true
      ∧ lengthAllowed .readStatus 1 = false)
    ∧ (lengthAllowed .readStatus 0 = true ∧ (inDrain inRun).supply = .drain
      ∧ listening (inDrain inRun) = true)
    ∧ (lengthAllowed .requestClose 0 = true ∧ inSetup.supply ≠ .drain
      ∧ modeAllowed .requestClose inSetup.store.mode = false)
    ∧ (lengthAllowed .commit 0 = true ∧ inSetup.store.mode = .setup ∧ inSetup.claim ≠ some 1)
    ∧ (isEdit .defineQuantity = true ∧ lengthAllowed .defineQuantity 3 = true)
    ∧ (modeAllowed .requestClose inRun.store.mode = true ∧ inRun.store.rights[1].close = false)
    ∧ (let blind : State :=
        onStore (fun st => { st with rights := st.rights.set 2 ⟨0, true, true, false, true⟩ }) inRun
       lengthAllowed .snapshotOpen 2 = true ∧ modeAllowed .snapshotOpen blind.store.mode = true
       ∧ blind.store.rights[2].snap = false)
    ∧ (lengthAllowed .claimSetup 0 = true ∧ modeAllowed .claimSetup inSetup.store.mode = true
      ∧ inSetup.store.rights[1].setup = false)
    ∧ lengthAllowed .reopen 0 = true ∧ modeAllowed .reopen inRun.store.mode = true
      ∧ inRun.store.rights[1].setup = false := by decide +kernel

/-- P0 with a command that waits, and none in execution. -/
def waitingAt (k : CommandKind) (args : List Byte) (s : State) : State :=
  onPort 0 (fun q => { q with execution := none, waiting := some ⟨⟨k, args⟩, true⟩ }) s

theorem test_meets_SecondFrameWaits :
    ((posting inRun).ports[0].execution ≠ none ∧ (posting inRun).ports[0].waiting = none
      ∧ listening (posting inRun) = true)
    ∧ (onPort 0 (fun q => { q with waiting := some ⟨⟨.readStatus, []⟩, true⟩ })
        (posting inRun)).ports[0].waiting ≠ none
    ∧ (let s := waitingAt .commit [] inRun
       s.ports[0].execution = none ∧ s.ports[0].waiting = some ⟨⟨.commit, []⟩, true⟩
       ∧ commonRefusal 0 ⟨.commit, []⟩ inRun = some .wrongMode)
    ∧ (commonRefusal 0 ⟨.setNoticeMask, [1]⟩ inRun = none
      ∧ (dispatched 0 ⟨.setNoticeMask, [1]⟩ inRun).result = some (.ok, [1]))
    ∧ (commonRefusal 0 ⟨.postIncrement, [0, 0, 0, 0, 2, 9]⟩ inRun = none
      ∧ (dispatched 0 ⟨.postIncrement, [0, 0, 0, 0, 2, 9]⟩ inRun).result = none)
    ∧ (commonRefusal 0 ⟨.commit, []⟩ (capturingS0 inSetup) = none
      ∧ takenByEngine .commit = true ∧ capturing (capturingS0 inSetup) = true
      ∧ (dispatched 0 ⟨.commit, []⟩ (capturingS0 inSetup)).result = some (.ok, [])) := by
  decide +kernel

theorem test_meets_ReadRegisterVerifiesAndReports :
    Takes 0 inRun ∧ inRun.store.registers[2].state = .free
    ∧ checkMatches inRun 0 inRun.store.registers[0] = true
    ∧ ((spoiled 0 inRun).store.registers[0].state = .live
      ∧ checkMatches (spoiled 0 inRun) 0 (spoiled 0 inRun).store.registers[0] = false)
    ∧ (spoiled 0 (suspect 0 inRun)).store.registers[0].state = .suspect
      ∧ checkMatches (spoiled 0 (suspect 0 inRun)) 0
        (spoiled 0 (suspect 0 inRun)).store.registers[0] = false := by decide +kernel

theorem test_meets_DefineQuantityWritesAnUnusedRecord :
    Edits 0 inSetup ∧ 8 ≤ (8#8).toNat ∧ 2 ≤ (2#8).toNat ∧ 4 ≤ (4#8).toNat
    ∧ quantityInUse inSetup.store 7 = false ∧ quantityInUse inSetup.store 0 = true := by
  decide +kernel

theorem test_meets_BindRegisterStartsAtZero :
    Edits 0 inSetup ∧ inSetup.store.quantities[0].defined = true
    ∧ inSetup.store.registers[31].state = .free ∧ inSetup.store.registers[0].state ≠ .free
    ∧ pairTaken inSetup.store 31 0 3 = false ∧ pairTaken inSetup.store 31 0 4 = true
    ∧ inSetup.store.quantities[7].defined = false := by decide +kernel

theorem test_meets_RegisterEditsWriteTheirSlot :
    Edits 0 inSetup ∧ inSetup.store.registers[0].state = .live
    ∧ checkMatches inSetup 0 inSetup.store.registers[0] = true
    ∧ inSetup.store.registers[31].state = .free
    ∧ (Edits 0 (suspect 0 inSetup) ∧ (suspect 0 inSetup).store.registers[0].state = .suspect
      ∧ canStandLive (suspect 0 inSetup).store 0 = true)
    ∧ canStandLive (setRegister 2 (reg 2 0 .wrap false 0) (suspect 0 inSetup)).store 0 = false
    ∧ checkMatches (spoiled 0 inSetup) 0 (spoiled 0 inSetup).store.registers[0] = false := by
  decide +kernel

theorem test_meets_WrapAndStopArithmetic :
    (reg 0 0 .wrap false 999999999).state = .live ∧ (reg 0 0 .wrap false 5).digits.toNat ≤ 12
    ∧ registerTotal 3 (reg 0 0 .stop false 999999998) + 1 < capacity 3 (reg 0 0 .stop false 0)
    ∧ capacity 3 (reg 0 0 .stop false 0) ≤ registerTotal 3 (reg 0 0 .stop false 999999998) + 2 := by
  decide +kernel

theorem test_meets_PostIncrementWaitsAtTheArbiter :
    Takes 0 inRun ∧ inRun.store.mode = .run ∧ inRun.store.quantities[0].defined = true
    ∧ inRun.store.rights[0].postMask.getLsbD 0 = true
    ∧ inRun.store.quantities[7].defined = false
    ∧ Takes 1 inRun ∧ inRun.store.rights[1].postMask.getLsbD 0 = false := by decide +kernel

theorem test_meets_PortGrantPlacesOrRefuses :
    (nextGrant (posting inRun) = some (.port 0)
      ∧ (posting inRun).ports[0].execution
        = some ⟨⟨.postIncrement, byte 0 :: packedDecimal 4 2 ++ [9]⟩, true⟩)
    ∧ (posting entering).store.mode ≠ .run ∧ nextGrant (posting entering) = some (.port 0)
    ∧ (List.replicate 28 (entry 1)).length = 28
    ∧ nextGrant { posting inRun with queue := List.replicate 28 (entry 1) } = some (.port 0)
    ∧ nextGrant { posting inRun with queue := List.replicate 27 (entry 1) } = some (.port 0) := by
  decide +kernel

theorem test_meets_ConversionTakesPulses :
    let s := counted 65535 inRun
    nextGrant s = some .converter ∧ s.store.pulseDefs[0].enabled = true
    ∧ s.store.pulseDefs[0].threshold ≤ s.store.pulseCounts[0].pending
    ∧ s.inputs[0].eligible = true ∧ s.store.mode ≠ .enteringSetup
    ∧ s.converterPointer = 7 ∧ ∀ m : InputId, m ≠ 0 → s.store.pulseDefs[m].enabled = false := by
  decide +kernel

theorem test_meets_ArbiterGrantsInCyclicOrder :
    nextGrant (posting (counted 1 inRun)) = some (.port 0) ∧ nextGrant inRun = none
    ∧ nextGrant { posting (counted 1 inRun) with arbiterPointer := .port 0 } = some .converter := by
  decide +kernel

theorem test_meets_ApplicationStartTakesTheHead :
    let s := spoiled 0 { inRun with queue := [entry 1] }
    s.queue = [entry 1] ∧ atServicePoint s = true ∧ s.closeState ≠ .requested ∧ s.captureQueue = []
    ∧ 0 ∈ targetsOf s.store (entry 1) ∧ checkMatches s 0 s.store.registers[0] = false
    ∧ checkMatches s 1 s.store.registers[1] = true := by decide +kernel

theorem test_meets_ApplicationCompletionCommits :
    let x : Target := ⟨0, reg 0 0 .wrap false 999999999⟩
    let s : State := { inRun with engine := .applying (entry 1) [x] }
    s.engine = .applying (entry 1) [x] ∧ ([x].map (·.slot)).Nodup
    ∧ overflowOf s 1 ⟨0, reg 0 0 .wrap false 5⟩ = none ∧ x.record.state = .live
    ∧ s.store.registers[0].state ≠ .suspect
    ∧ capacity 3 x.record ≤ registerTotal 3 x.record + 1 := by decide +kernel

theorem test_meets_PulseJudgementCountsOrRejects :
    let s := verifying 1 inRun
    sampleFalls s = true ∧ TickPart.input 0 ∉ s.prescaler.early
    ∧ s.store.pulseDefs[0].enabled = true
    ∧ judgementDue s.store.pulseDefs[0] s.inputs[0] = true ∧ s.inputs[0].samplesActive ≤ 2
    ∧ s.inputs[0].samplesActive + (true == s.store.pulseDefs[0].activeHigh).toNat < 2
    ∧ s.inputs[0].samplesActive + (false == s.store.pulseDefs[0].activeHigh).toNat = 2
    ∧ (counted 65534 s).store.pulseCounts[0].pending < 65535
    ∧ judgementDue (counted 65535 s).store.pulseDefs[0] (counted 65535 s).inputs[0] = true
    ∧ (counted 65535 s).store.pulseCounts[0].saturated = false := by
  decide +kernel

theorem test_meets_RearmCompleteArms :
    let s := onInput 0 (fun i => { i with frontEnd := .rearming }) inRun
    sampleFalls s = true ∧ TickPart.input 0 ∉ s.prescaler.early
    ∧ rearmDue s.store.pulseDefs[0] s.inputs[0] = true := by decide +kernel

theorem test_meets_SampleTickSamplesEveryInput :
    (sampleFalls inRun = true ∧ sampleFalls { inRun with prescaler := ⟨1024, 59, []⟩ } = false
      ∧ sampleFalls { inRun with prescaler := ⟨0, 60, []⟩ } = false)
    ∧ inRun.store.pulseDefs[1].enabled = false
    ∧ TickPart.input 0 ∈ (takeEarly (.input 0) inRun).prescaler.early
    ∧ (inRun.store.pulseDefs[0].enabled = true ∧ TickPart.input 0 ∉ inRun.prescaler.early)
    ∧ (judgementDue (verifying 1 inRun).store.pulseDefs[0] (verifying 1 inRun).inputs[0] = true
      ∧ sampleFalls (verifying 1 inRun) = true)
    ∧ judgementDue inRun.store.pulseDefs[0] inRun.inputs[0] = false
    ∧ (inRun.store.closeOptions.lineMode ≠ .off ∧ inRun.store.mode ≠ .setup
      ∧ inRun.supply = .runSupply ∧ TickPart.closein ∉ inRun.prescaler.early)
    ∧ (inRun.recognizer.level = .unknown ∧ inRun.recognizer.runCount = 0)
    ∧ ({ inRun with recognizer := ⟨.high, false, 2⟩ } : State).recognizer = ⟨.high, false, 2⟩
    ∧ (inhibitActive free = false ∧ inhibitActive inRun = true ∧ free.closeState = .idle
      ∧ free.store.mode = .run ∧ (takeClose .line none free).closeState ≠ .idle)
    ∧ (counted 65535 (verifying 2 inRun)).store.pulseCounts[0].saturated = false := by
  decide +kernel

theorem test_meets_PulseInputDefinedAndRead :
    let d : PulseDef := ⟨true, true, false, 8, 255, 1, 9999, 3, 255⟩
    (Edits 0 inSetup ∧ d.spacing ≤ 8 ∧ d.rearmTime ≤ 255 ∧ d.mantissa ≤ 9999 ∧ d.fraction ≤ 3
      ∧ d.threshold ≤ 255 ∧ inSetup.store.quantities[d.quantity].defined = true)
    ∧ inSetup.store.quantities[7].defined = false
    ∧ inSetup.store.pulseCounts[7].pending = 0 ∧ inSetup.store.pulseCounts[7].remainder = 0
    ∧ (onCount 7 (fun c => { c with remainder := 1 }) inSetup).store.pulseCounts[7].remainder ≠ 0
    ∧ (List.replicate 12 (0 : Byte)).length = 12 ∧ (arg (List.replicate 12 0) 4).toNat = 0
    ∧ Takes 0 inSetup := by decide +kernel

theorem test_meets_SetTariffChangesTheTariff :
    Takes 0 inRun ∧ inRun.store.mode ≠ .setup ∧ inRun.store.sourceMode = .command
    ∧ inRun.store.rights[0].tariff = true ∧ inRun.store.activeTariff = .t1
    ∧ (inLines inRun).store.sourceMode = .lines ∧ Takes 0 (inLines inRun)
    ∧ Takes 1 inRun ∧ inRun.store.rights[1].tariff = false := by decide +kernel

theorem test_meets_LinesNeedTwoAgreeingSamples :
    linesSampled inRun = false ∧ linesSampled (inLines inRun) = true
    ∧ (inLines inRun).lineHistory ≠ some .t2
    ∧ ({ inLines inRun with lineHistory := some .t2 } : State).lineHistory = some .t2
    ∧ (inLines inRun).store.activeTariff ≠ .t2 := by decide +kernel

theorem test_meets_SecondAndMinuteTicksCount :
    (secondFalls (holding 1 inRun) = true ∧ minuteFalls inRun = true)
    ∧ secondFalls { inRun with prescaler := ⟨1022, 59, []⟩ } = false
    ∧ minuteFalls { inRun with prescaler := ⟨1023, 58, []⟩ } = false
    ∧ TickPart.lease 0 ∉ (holding 1 inRun).prescaler.early
    ∧ TickPart.lease 0 ∈ (takeEarly (.lease 0) (holding 1 inRun)).prescaler.early
    ∧ (let two : State := onChain .inhibit (fun c => { c with count := 2 }) inRun
       (chainOf two.store.chains .inhibit).state = .running
       ∧ (chainOf two.store.chains .inhibit).tick = .second
       ∧ TickPart.chain .second .inhibit ∉ two.prescaler.early
       ∧ (chainOf two.store.chains .inhibit).count = 2)
    ∧ (chainOf inRun.store.chains .demand).tick ≠ .second
    ∧ (chainOf inRun.store.chains .inhibit).count = 1 ∧ chainTickFalls .second inRun = true := by
  decide +kernel

theorem test_meets_DemandExpiryEndsTheIntervalInFull :
    (inRun.store.chains.demand.state = .running ∧ inRun.store.chains.demand.count = 1
      ∧ chainTickFalls inRun.store.chains.demand.tick inRun = true
      ∧ TickPart.chain inRun.store.chains.demand.tick .demand ∉ inRun.prescaler.early
      ∧ inRun.supply = .runSupply)
    ∧ (inDrain inRun).supply ≠ .runSupply
      ∧ chainTickFalls (inDrain inRun).store.chains.demand.tick (inDrain inRun) = true := by
  decide +kernel

theorem test_meets_RequestCloseTakenOrRefused :
    Takes 0 free ∧ free.store.mode ≠ .setup ∧ free.store.rights[0].close = true
    ∧ (free.store.mode = .run ∧ free.closeState = .idle ∧ inhibitActive free = false)
    ∧ (Takes 0 entering ∧ entering.store.mode = .enteringSetup)
    ∧ (takeClose .line none free).closeState ≠ .idle
    ∧ Takes 0 inRun ∧ inRun.store.mode = .run ∧ inRun.closeState = .idle
      ∧ inhibitActive inRun = true := by decide +kernel

theorem test_meets_WritingStartBuildsTheRecord :
    let s := spoiled 1 (takeClose .line none inRun)
    (s.currentClose = some ⟨.line, none⟩ ∧ s.engine = .ready ∧ s.store.mode ≠ .setup
      ∧ s.closeState = .requested)
    ∧ (inDrain s).supply = .drain
    ∧ archived s.store 31 = false ∧ checkMatches s 0 s.store.registers[0] = true
    ∧ archived s.store 1 = true ∧ checkMatches s 1 s.store.registers[1] = false := by
  decide +kernel

/-- A LINE close in WRITING with the latch set behind it. -/
def latched (options : CloseOptions) : State :=
  { onStore (fun st => { st with closeOptions := options }) (writing .line inRun) with latch := true }

theorem test_meets_CloseCompletionStartsThePeriod :
    (∀ cause ∈ [Cause.setup, Cause.line], ∃ b : Building,
      (writing cause inRun).engine = .closing
      ∧ (writing cause inRun).currentClose = some ⟨cause, none⟩
      ∧ (writing cause inRun).building = some b)
    ∧ (inRun.store.registers[0].periodReset = false ∧ inRun.store.registers[1].state ≠ .free
      ∧ inRun.store.registers[1].periodReset = true)
    ∧ (writing .setup entering).reopen = some ⟨0, true⟩
    ∧ ((latched ⟨.edge, false, false⟩).latch = true
      ∧ (latched ⟨.edge, false, false⟩).store.mode = .run
      ∧ (latched ⟨.edge, false, false⟩).supply = .runSupply
      ∧ (latched ⟨.edge, false, false⟩).store.closeOptions.inhibitEnabled = false)
    ∧ ((latched ⟨.edge, false, true⟩).store.closeOptions.inhibitEnabled = true
      ∧ (loaded (latched ⟨.edge, false, true⟩).store.chains.inhibit).state = .running)
    ∧ (latched ⟨.level, false, true⟩).store.closeOptions.lineMode = .level
    ∧ (latched ⟨.off, false, true⟩).store.closeOptions.lineMode = .off :=
  ⟨fun cause _ => ⟨_, rfl, rfl, rfl⟩, by decide +kernel⟩

theorem test_meets_CloseInEdgesActOnTheLatch :
    let fallen : Recognizer := ⟨.high, false, 2⟩
    let lows : State := { free with recognizer := fallen }
    let held : State := { inRun with recognizer := fallen }
    let level : State := onStore (fun st => { st with closeOptions := ⟨.level, false, true⟩ }) held
    (sampleFalls lows = true ∧ TickPart.closein ∉ lows.prescaler.early
      ∧ lows.supply = .runSupply ∧ lows.store.mode = .run
      ∧ lows.store.closeOptions.lineMode = .edge ∧ lows.recognizer = ⟨.high, false, 2⟩
      ∧ lows.closeState = .idle ∧ inhibitActive lows = false)
    ∧ (inhibitActive held = true ∧ held.store.closeOptions.lineMode = .edge)
    ∧ (inhibitActive level = true ∧ level.store.closeOptions.lineMode = .level)
    ∧ (takeClose .line none lows).closeState ≠ .idle
    ∧ ({ free with recognizer := ⟨.low, true, 2⟩ } : State).recognizer = ⟨.low, true, 2⟩ := by
  decide +kernel

theorem test_meets_ExpiriesAtThePeriodUnit :
    let plain : State := onStore (fun st => { st with closeOptions := ⟨.edge, false, true⟩ }) free
    let waiting : State := onStore (fun st => { st with overdueHeld := true }) inRun
    let level : State :=
      { onStore (fun st => { st with closeOptions := ⟨.level, false, true⟩ }) inRun with
        latch := true, recognizer := ⟨.low, false, 0⟩ }
    (free.store.mode ≠ .setup ∧ free.store.chains.overdue.state = .running
      ∧ free.store.chains.overdue.count = 1
      ∧ chainTickFalls free.store.chains.overdue.tick free = true
      ∧ TickPart.chain free.store.chains.overdue.tick .overdue ∉ free.prescaler.early)
    ∧ (plain.store.closeOptions.overdueEnabled = false
      ∧ (takeClose .line none free).closeState ≠ .idle)
    ∧ (inRun.store.closeOptions.overdueEnabled = true ∧ inRun.closeState = .idle
      ∧ inhibitActive inRun = true)
    ∧ (free.supply = .runSupply ∧ free.store.mode = .run ∧ free.closeState = .idle
      ∧ free.store.closeOptions.overdueEnabled = true ∧ inhibitActive free = false)
    ∧ (inRun.store.chains.inhibit.state = .running ∧ inRun.store.chains.inhibit.count = 1
      ∧ chainTickFalls inRun.store.chains.inhibit.tick inRun = true
      ∧ TickPart.chain inRun.store.chains.inhibit.tick .inhibit ∉ inRun.prescaler.early)
    ∧ (waiting.store.overdueHeld = true ∧ waiting.store.closeOptions.overdueEnabled = true)
    ∧ (level.store.overdueHeld = false ∧ level.store.closeOptions.lineMode = .level
      ∧ level.latch = true ∧ level.recognizer.level = .low)
    ∧ (inDrain inRun).supply ≠ .runSupply := by decide +kernel

theorem test_meets_LogReadAndCleared :
    let s := logged inRun
    let e : LogEntry := ⟨14, false, recordBytes (recordHeader inRun.store ⟨.line, none⟩ 0 0) []⟩
    Takes 0 s ∧ s.store.log.entries[s.store.log.entries.length - 1 - 0]? = some e
    ∧ e.damaged = false ∧ recordCheckOk e.bytes = true ∧ 13 < e.size ∧ e.size ≤ 14
    ∧ recordCheckOk (e.bytes.map (· + 1)) = false
    ∧ s.store.log.entries.length ≤ 1
    ∧ s.store.log.entries.length ≤ (s.store.periodNumber - 1 - 0xFFFF#16).toNat
    ∧ Edits 0 (logged inSetup) := by decide +kernel

theorem test_meets_SnapshotOpenGivesTheLowestSlot :
    (Takes 0 inRun ∧ inRun.store.rights[0].snap = true)
    ∧ ([0, 31] : List RegSlot).Nodup ∧ slotCount (holding 1 inRun) 0 < 2
    ∧ (holding 1 inRun).slots[1] = .free
    ∧ (∀ j : SnapId, j < 1 → (holding 1 inRun).slots[j] ≠ .free)
    ∧ (let full : State := { inRun with slots := Vector.replicate 4 (.pending ⟨0, [0], 1⟩) }
       2 ≤ slotCount full 0 ∧ slotCount full 1 < 2 ∧ (∀ i : SnapId, full.slots[i] ≠ .free)
       ∧ Takes 1 full ∧ full.store.rights[1].snap = true)
    ∧ ¬([0, 0] : List RegSlot).Nodup := by decide +kernel

theorem test_meets_SnapshotReadAndReleased :
    let o : Opened := ⟨0, [0], 9⟩
    let es := [capturedEntry 0 3 (reg 0 0 .wrap false 5)]
    Takes 0 (holding 3 inRun) ∧ (holding 3 inRun).slots[0] = .held o 3 es ⟨4, 1, .t2⟩
    ∧ o.holder = 0 ∧ 0 < o.list.length ∧ o.list.length ≤ 1
    ∧ (opened inRun).slots[0] = .pending ⟨0, [1, 0], 9⟩ ∧ Takes 0 (opened inRun)
    ∧ slotHolder (holding 3 inRun).slots[0] = some 0
    ∧ slotHolder (holding 3 inRun).slots[3] ≠ some 0 := by decide +kernel

theorem test_meets_SnapshotRenewRestoresTheLease :
    let es := [capturedEntry 0 3 (reg 0 0 .wrap false 5)]
    Takes 0 (holding 9 inRun) ∧ (holding 9 inRun).slots[0] = .held ⟨0, [0], 9⟩ 9 es ⟨4, 1, .t2⟩
    ∧ 4 ≤ (4#8).toNat ∧ slotHolder (holding 9 inRun).slots[3] ≠ some 0
    ∧ (opened inRun).slots[0] = .pending ⟨0, [1, 0], 9⟩ ∧ Takes 0 (opened inRun) := by decide +kernel

theorem test_meets_CaptureCopiesTheList :
    (let s := spoiled 0 (opened inRun)
     s.captureQueue = [0] ∧ s.slots[0] = .pending ⟨0, [1, 0], 9⟩ ∧ captureTaken s = true
     ∧ ([1, 0] : List RegSlot).Nodup
     ∧ checkMatches s 1 s.store.registers[1] = true
     ∧ checkMatches s 0 s.store.registers[0] = false)
    ∧ (∀ withdrawn : Bool,
      let s : State := { opened inRun with engine := .capturing 0 withdrawn [] ⟨4, 1, .t1⟩ }
      s.engine = .capturing 0 withdrawn [] ⟨4, 1, .t1⟩
      ∧ s.slots[0] = .pending ⟨0, [1, 0], 9⟩ ∧ (∀ p : PortId, s.ports[p].execution = none)
      ∧ ((posting s).ports[0].execution.map fun ex => takenByEngine ex.command.kind) = some false)
    ∧ (let s := onPort 0 (fun q => { q with execution := some ⟨⟨.commit, []⟩, true⟩ })
        (capturingS0 inSetup)
       s.ports[0].execution = some ⟨⟨.commit, []⟩, true⟩ ∧ takenByEngine .commit = true
       ∧ ∀ p : PortId, p ≠ 0 → s.ports[p].execution = none)
    ∧ (commonRefusal 0 ⟨.commit, []⟩ inSetup = none ∧ capturing inSetup = false
      ∧ (dispatched 0 ⟨.commit, []⟩ inSetup).result = some (.ok, []))
    ∧ (let s := capturingS0 inSetup
       Takes 0 s ∧ commonRefusal 0 ⟨.bindRegister, [0, 0, 0, 6, 0, 0, 0]⟩ s = none
       ∧ capturing s = true ∧ takenByEngine .bindRegister = true
       ∧ (dispatched 0 ⟨.bindRegister, [0, 0, 0, 6, 0, 0, 0]⟩ (openFrame 0 s)).result
         = some (.conflict, [])
       ∧ (dispatched 0 ⟨.bindRegister, [31, 0, 0, 6, 0, 0, 0]⟩ (openFrame 0 s)).result
         = some (.conflict, [])
       ∧ (dispatched 0 ⟨.bindRegister, [31, 0, 1, 6, 0, 0, 0]⟩ (openFrame 0 s)).result
         = some (.ok, [])) := by
  decide +kernel

theorem test_meets_LeaseExpiryFreesTheSlot :
    ((secondFalls (holding 1 inRun) = true ∧ TickPart.lease 0 ∉ (holding 1 inRun).prescaler.early)
      ∧ (holding 1 inRun).slots[0] = .held ⟨0, [0], 9⟩ 1
        [capturedEntry 0 3 (reg 0 0 .wrap false 5)] ⟨4, 1, .t2⟩
      ∧ (∀ j : SnapId, ¬ j < 0) ∧ ∀ j : SnapId, j ∉ (holding 1 inRun).captureQueue)
    ∧ ∀ j w copies st, (holding 1 inRun).engine ≠ .capturing j w copies st :=
  ⟨by decide +kernel, fun _ _ _ _ h => nomatch (show Engine.ready = _ from h)⟩

theorem test_meets_ClaimSetupAndRelease :
    Takes 0 inSetup ∧ inSetup.store.mode = .setup ∧ inSetup.store.rights[0].setup = true
    ∧ inSetup.claim = some 0 ∧ State.reset.claim = none ∧ Takes 0 State.reset
    ∧ ({ inSetup with claim := some 2 } : State).claim = some 2
    ∧ Takes 1 inSetup ∧ inSetup.store.rights[1].setup = false := by decide +kernel

theorem test_meets_ConfigurationEditsWriteTheirItem :
    Edits 0 inSetup ∧ inSetup.store.quantities[0].defined = true
    ∧ (∀ d : ChannelId, inSetup.store.channels[d].quantity ≠ some 0)
    ∧ (onStore (fun st => { st with channels := st.channels.set 1 ⟨some 0, zeroMaxima⟩ })
        inSetup).store.channels[1].quantity = some 0 := by decide +kernel

theorem test_meets_DefineChainKeepsChainsApart :
    Edits 0 inSetup ∧ (List.replicate 9 (0 : Byte)).length = 9 ∧ 0 + 4 ≤ 4 ∧ 1 ≤ 4096 ^ 4 - 1
    ∧ 4096 ^ 4 - 1 < 4096 ^ 4
    ∧ (∀ g : ChainFn, (chainOf inSetup.store.chains g).state = .unassigned)
    ∧ (let s : State := onChain .overdue (fun _ => ⟨1, 2, .second, 9, .stopped, 0⟩) inSetup
       Edits 0 s ∧ (chainOf s.store.chains .overdue).state ≠ .unassigned
       ∧ 0 + 1 ≤ (chainOf s.store.chains .overdue).first
       ∧ ¬ 0 + 2 ≤ (chainOf s.store.chains .overdue).first
       ∧ ¬ (chainOf s.store.chains .overdue).first + 2 ≤ 2) := by
  refine ⟨by decide +kernel, by decide +kernel, by decide, by decide, by decide, ?_, by
    decide +kernel⟩
  intro g; cases g <;> decide +kernel

theorem test_meets_CommitStartsCounting :
    (Takes 0 inSetup ∧ inSetup.store.mode = .setup ∧ inSetup.claim = some 0
      ∧ capturing inSetup = false)
    ∧ (Takes 0 (capturingS0 inSetup) ∧ capturing (capturingS0 inSetup) = true)
    ∧ commitFault inSetup.store = none
    ∧ commitFault { inSetup.store with
        channels := inSetup.store.channels.set 3 ⟨some 7, zeroMaxima⟩ } = some (3, 0)
    ∧ commitFault { inSetup.store with closeOptions := ⟨.off, true, false⟩ } = some (4, 1)
    ∧ commitFault { inSetup.store with closeOptions := ⟨.off, false, true⟩ } = some (5, 2)
    ∧ commitFault { inSetup.store with
        rights := Vector.replicate 3 ⟨0, false, false, false, false⟩ } = some (6, 0) := by
  decide +kernel

theorem test_meets_ReopenLeadsToTheSetupClose :
    (Takes 0 inRun ∧ inRun.store.mode = .run ∧ inRun.store.rights[0].setup = true
      ∧ inRun.closeState = .idle)
    ∧ (takeClose .line none inRun).closeState ≠ .idle
    ∧ entering.reopen = some ⟨0, true⟩ ∧ entering.store.mode = .enteringSetup
    ∧ entering.supply = .runSupply ∧ entering.closeState = .idle ∧ entering.queue = []
    ∧ entering.captureQueue = [] ∧ entering.engine = .ready
    ∧ entering.inputs[0].served = false ∧ entering.inputs[0].eligible = false
    ∧ entering.store.pulseCounts[0].pending < entering.store.pulseDefs[0].threshold
    ∧ ∀ n : InputId, n ≠ 0 → entering.store.pulseDefs[n].enabled = false := by decide +kernel

theorem test_meets_DrainEntryStopsTheOutside :
    (inRetain inRun).supply = .retain
    ∧ ((posting inRun).supply = .runSupply ∧ (posting inRun).ports[0].execution ≠ none
      ∧ (posting inRun).ports[0].waiting = none)
    ∧ (onPort 0 (fun q => { q with waiting := some ⟨⟨.readStatus, [1]⟩, true⟩ })
        (posting inRun)).ports[0].waiting = some ⟨⟨.readStatus, [1]⟩, true⟩
    ∧ capturing (capturingS0 inRun) = true
    ∧ entering.store.mode = .enteringSetup ∧ entering.closeState = .idle := by
  decide +kernel

theorem test_meets_RetainEntryKeepsTheStore :
    let s := inDrain inRun
    (s.supply = .drain ∧ s.queue = [] ∧ s.closeState = .idle ∧ s.store.mode ≠ .enteringSetup)
    ∧ ∀ e ts, s.engine ≠ .applying e ts :=
  ⟨by decide +kernel, fun _ _ h => nomatch (show Engine.ready = _ from h)⟩

theorem test_meets_RestoreBringsThePortsUp :
    let s := inRetain inRun
    let cold : State := onStore (fun st => { st with coldMarker := true }) s
    let overdue : State := onStore (fun st => { st with overdueHeld := true })
      (onChain .inhibit (fun c => { c with state := .expired }) s)
    (signatureOk s.store = true ∧ signatureOk cold.store = true ∧ signatureOk overdue.store = true)
    ∧ signatureOk { s.store with signature := ⟨.other, 0⟩ } = false
    ∧ (s.supply = .retain ∧ s.store.mode = .run ∧ s.store.chains.demand.state ≠ .unassigned
      ∧ s.store.overdueHeld = false)
    ∧ ({ s with supply := .restore } : State).pfailAsserted = true
    ∧ (overdue.store.mode = .run ∧ overdue.store.overdueHeld = true
      ∧ inhibitActive overdue = false)
    ∧ (indexCheckOk s.store.log = true
      ∧ indexCheckOk { s.store.log with check := s.store.log.check + 1 } = false)
    ∧ checkMatches (spoiled 0 s) 0 (spoiled 0 s).store.registers[0] = false
    ∧ (inRetain inSetup).store.mode = .setup
    ∧ inRun.supply = .runSupply ∧ (inDrain inRun).supply = .drain := by
  refine ⟨⟨signatureOk_writeSignature _, signatureOk_writeSignature _,
    signatureOk_writeSignature _⟩, ?_, by decide +kernel⟩
  exact beq_eq_false_iff_ne.mpr fun h => absurd (congrArg Signature.pattern h) (by decide)

theorem test_meets_PowerUpAndLossOfSupplies :
    let s : State := { loseVolatile inRun with supply := .unpowered }
    s.supply = .unpowered ∧ inRun.supply ≠ .unpowered
    ∧ signatureOk s.store = true ∧ signatureOk { s.store with signature := ⟨.other, 0⟩ } = false := by
  refine ⟨by decide +kernel, by decide +kernel, signatureOk_writeSignature _, ?_⟩
  exact beq_eq_false_iff_ne.mpr fun h => absurd (congrArg Signature.pattern h) (by decide)

theorem test_meets_ResetPinResetsThePorts :
    (inRun.resetLow = false ∧ inRun.portsUp = true) ∧ { inRun with resetLow := true }.resetLow = true
    ∧ (inRetain inRun).portsUp = false ∧ (inRetain inRun).resetLow = false := by decide +kernel

theorem test_meets_NoticeLawKept :
    NoticeLaw inRun ∧ stepsOn { inRun with pending := [.portReset 0 []] } = true := by decide +kernel

theorem test_meets_QueueLawKept :
    QueueLaw { posting inRun with queue := List.replicate 27 (entry 1) }
    ∧ stepsOn { posting inRun with queue := List.replicate 27 (entry 1), pending := [.portGrant] }
      = true := by decide +kernel

theorem test_meets_SlotLawKept :
    SlotLaw (holding 1 inRun)
    ∧ stepsOn { holding 1 inRun with pending := [.snapshotOpen 0 [1, 0]] } = true := by
  decide +kernel

theorem test_meets_CoherenceKept :
    Coherent inRun ∧ stepsOn { inRun with pending := [.drainEntry] } = true := by
  refine ⟨⟨?_, ?_, ?_, ?_, ?_, ?_, ?_⟩, ?_⟩ <;> decide +kernel

theorem test_meets_LogLawKept :
    LogLaw (writing .line (logged inRun))
    ∧ losesStore { writing .line (logged inRun) with pending := [.closeCompletion] } = false
    ∧ stepsOn { writing .line (logged inRun) with pending := [.closeCompletion] } = true := by
  decide +kernel

theorem test_meets_PulseLawKept :
    PulseLaw (counted 65535 inRun)
    ∧ losesStore { counted 65535 inRun with pending := [.conversion] } = false
    ∧ stepsOn { counted 65535 inRun with pending := [.conversion] } = true := by decide +kernel

theorem test_meets_ChainLawKept :
    ChainLaw inRun ∧ losesStore { inRun with pending := [.minuteTick []] } = false
    ∧ stepsOn { inRun with pending := [.minuteTick []] } = true := by decide +kernel

theorem test_meets_BindingLawKept :
    Coherent inRun ∧ (TargetLaw inRun ∧ BindingLaw inRun)
    ∧ losesStore { inSetup with pending := [.acceptRegister 0 [0]] } = false
    ∧ stepsOn { inSetup with pending := [.acceptRegister 0 [0]] } = true := by
  refine ⟨⟨?_, ?_, ?_, ?_, ?_, ?_, ?_⟩, ?_⟩ <;> decide +kernel

theorem test_meets_CounterRisesWithApplications :
    losesStore { inRun with pending := [.applicationCompletion] } = false
    ∧ stepsOn { inRun with
        engine := .applying (entry 1) [], pending := [.applicationCompletion] } = true := by
  decide +kernel

end Sys2Proof.Tests
end

section
/-! The tariff unit: what a tariff change does to the state (R71, R72, R81), and what a second tick does at
the TSEL lines, one lemma for each case of R69. -/

namespace Sys2Proof.Machine

/-! ### A tariff change -/

/-- The three effects of R71 written out: the tariff, the partial end of the demand interval (R81), the
notice (R72). -/
theorem tariffChange_eq (new : Tariff) (source : SourceMode) (port : Option PortId) (s : State) :
    tariffChange new source port s = raise (tariffNotice new s.store.activeTariff source port)
      { s with
        store := { s.store with
          activeTariff := new
          intervalIndex := min (s.store.intervalIndex + 1) 65535
          chains := { s.store.chains with demand := loaded s.store.chains.demand } }
        accumulators := Vector.replicate 4 0
        intervalPartial := true } := rfl

/-- A change from the lines carries the source code 1 and the mark for no port (R72). -/
theorem tariffNotice_lines (new old : Tariff) :
    tariffNotice new old .lines none = ⟨.tariff, tariffCode new, tariffCode old, 1, 0xFF, 0⟩ := rfl

/-! ### The TSEL lines at a second tick -/

/-- The table of R69, TSEL1 the higher digit. -/
theorem selectedTariff_eq_ite (tsel1 tsel0 : Bool) :
    selectedTariff tsel1 tsel0
      = if tsel1 then (if tsel0 then .t4 else .t3) else (if tsel0 then .t2 else .t1) := by
  cases tsel1 <;> cases tsel0 <;> rfl

theorem mode_ne_setup_iff {m : PartMode} : m ≠ .setup ↔ m = .run ∨ m = .enteringSetup := by
  cases m <;> decide

/-- When the lines are sampled: R69 names the two modes in which they are, the model the one in which they
are not. -/
theorem linesSampled_iff {s : State} :
    linesSampled s = true ↔ s.store.sourceMode = .lines
      ∧ (s.store.mode = .run ∨ s.store.mode = .enteringSetup) ∧ s.supply = .runSupply := by
  simp only [linesSampled, Bool.and_eq_true, beq_iff_eq, bne_iff_ne, mode_ne_setup_iff, and_assoc]

theorem sampleLines_of_not_sampled {tsel1 tsel0 : Bool} {s : State} (h : ¬ linesSampled s = true) :
    sampleLines tsel1 tsel0 s = s := if_neg h

/-- A sample that makes no change is kept for the next tick (R69). -/
theorem sampleLines_of_no_change {tsel1 tsel0 : Bool} {s : State} (h : linesSampled s = true)
    (hno : s.lineHistory ≠ some (selectedTariff tsel1 tsel0)
      ∨ selectedTariff tsel1 tsel0 = s.store.activeTariff) :
    sampleLines tsel1 tsel0 s = { s with lineHistory := some (selectedTariff tsel1 tsel0) } := by
  have hguard : ¬ (s.lineHistory = some (selectedTariff tsel1 tsel0)
      ∧ selectedTariff tsel1 tsel0 ≠ s.store.activeTariff) := fun ⟨hagree, hdiffer⟩ =>
    hno.elim (fun hne => hne hagree) hdiffer
  simp only [sampleLines, if_pos h, if_neg hguard]

/-- The second of two agreeing samples that differ from the active tariff makes the change, and is kept in
its turn (R69). -/
theorem sampleLines_of_change {tsel1 tsel0 : Bool} {s : State} (h : linesSampled s = true)
    (hagree : s.lineHistory = some (selectedTariff tsel1 tsel0))
    (hdiffer : selectedTariff tsel1 tsel0 ≠ s.store.activeTariff) :
    sampleLines tsel1 tsel0 s =
      { tariffChange (selectedTariff tsel1 tsel0) .lines none s with
        lineHistory := some (selectedTariff tsel1 tsel0) } := by
  simp only [sampleLines, if_pos h, if_pos (And.intro hagree hdiffer)]

theorem secondAt_lines (tsel1 tsel0 : Bool) (s : State) :
    secondAt tsel1 tsel0 s .lines = sampleLines tsel1 tsel0 s := rfl

/-- Settles O28: the three cases of R69, the change with its effects written out. -/
theorem linesNeedTwoAgreeingSamples : Obligations.LinesNeedTwoAgreeingSamples := by
  intro hi lo s
  simp only [← selectedTariff_eq_ite, ← linesSampled_iff, secondAt_lines]
  refine ⟨sampleLines_of_not_sampled, sampleLines_of_no_change, fun hsampled hagree hdiffer => ?_⟩
  rw [sampleLines_of_change hsampled hagree hdiffer, tariffChange_eq, tariffNotice_lines]

end Sys2Proof.Machine
end

section
/-! READ NOTICES (R154): what it reports, what it leaves of the queue, and that the frame that brought it
shows in neither. -/

namespace Sys2Proof.Machine

/-! ### The common checks -/

/-- The five checks a command has to pass before its own block sees it (R149, steps 2 to 6). -/
theorem commonRefusal_eq_none_iff {p : PortId} {c : Command} {s : State} :
    commonRefusal p c s = none ↔ known c.kind = true ∧ lengthAllowed c.kind c.args.length = true
      ∧ s.supply ≠ .drain ∧ modeFits c.kind s = true ∧ rightRefusal c.kind p s = none := by
  unfold commonRefusal
  split_ifs <;> simp_all

/-- READ NOTICES needs no mode and no right (R163). -/
theorem commonRefusal_readNotices {p : PortId} {s : State} (h : s.supply ≠ .drain) :
    commonRefusal p ⟨.readNotices, []⟩ s = none :=
  commonRefusal_eq_none_iff.mpr ⟨rfl, rfl, h, rfl, rfl⟩

/-! ### What is read and what is left -/

/-- What READ NOTICES reports of a port: how many notices, how many are left, OVERRUN, then the notices
themselves, the oldest first (R154). -/
def noticesReport (q : Port) : List Byte :=
  [byte (min 6 q.notices.length), byte (q.notices.length - 6), boolCode q.overrun]
    ++ (q.notices.take 6).flatMap noticeBytes

/-- Notices are left where the queue held more than one READ NOTICES returns. -/
theorem notices_left (ns : List Notice) : (!(ns.drop 6).isEmpty) = decide (6 < ns.length) := by
  rw [Bool.eq_iff_iff]
  simp

/-- ATTN stands, and OVERRUN is kept, exactly where notices are left (R153, R154). -/
theorem noticesRead_eq (q : Port) :
    noticesRead q =
      { q with
        notices := q.notices.drop 6
        attn := decide (6 < q.notices.length)
        overrun := q.overrun && decide (6 < q.notices.length) } := by
  simp only [noticesRead, readLimit, notices_left]

theorem doReadNotices_eq (p : PortId) (args : List Byte) (s : State) :
    doReadNotices p args s = answer (onPort p noticesRead s) .ok (noticesReport s.ports[p]) := by
  have hleft : s.ports[p].notices.length - min 6 s.ports[p].notices.length
      = s.ports[p].notices.length - 6 := by omega
  simp only [doReadNotices, noticesReport, readLimit, List.length_take, hleft]

/-! ### The frame that brings it -/

theorem exec_readNotices (p : PortId) (args : List Byte) (s : State) :
    exec (.readNotices p args) s = .next (takeCommand p .readNotices args s) := rfl

theorem openFrame_eq_onPort (p : PortId) (s : State) : openFrame p s = onPort p framed s := rfl

/-- The notices of a port are read alike before and after a frame begins on it. -/
theorem doReadNotices_openFrame (p : PortId) (args : List Byte) (s : State) :
    doReadNotices p args (openFrame p s)
      = answer (openFrame p (onPort p noticesRead s)) .ok (noticesReport s.ports[p]) := by
  have hreport : noticesReport (onPort p framed s).ports[p] = noticesReport s.ports[p] := by
    rw [onPort_port_self]; rfl
  rw [doReadNotices_eq, openFrame_eq_onPort, openFrame_eq_onPort, hreport, onPort_onPort,
    onPort_onPort]
  rfl

/-- A READ NOTICES that its port can take is answered at once, with its notices removed. -/
theorem takeCommand_readNotices {p : PortId} {s : State} (h : Takes p s) :
    takeCommand p .readNotices [] s
      = afterAnswer p .readNotices .ok (noticesReport s.ports[p]) (onPort p noticesRead s) := by
  have ⟨_, hfree, hsupply⟩ := h
  have hstill : (onPort p noticesRead s).ports[p].execution = none := by
    rw [onPort_port_self]; exact hfree
  rw [takeCommand_answered h (Nat.zero_le _) (commonRefusal_readNotices hsupply)
    (.inl fun ⟨hengine, _⟩ => absurd hengine (by decide)) (doReadNotices_openFrame p [] s)]
  exact giveResult_openFrame [] .ok _ hstill (by decide)

/-- Settles O6: the answer is made on the port from which the notices have been removed. -/
theorem readNoticesRemovesTheOldest : Obligations.ReadNoticesRemovesTheOldest := by
  intro p s h
  rw [exec_readNotices, takeCommand_readNotices h, afterAnswer, onPort_onPort]
  refine congrArg _ (onPort_congr ?_)
  rw [noticesRead_eq]
  rfl

end Sys2Proof.Machine
end

section
/-! What one step can do, said once for all the laws: an ordinary step is a run of acts, and each act carries
what the laws need to know of it. The other steps (a completion, the changes of the supply state) are named
one by one. -/

namespace Sys2Proof.Machine

/-! ### The acts -/

/-- A change of the fields that no law reads. -/
def Quiet (s t : State) : Prop :=
  t = { s with
    resetLow := t.resetLow, arbiterPointer := t.arbiterPointer, lineHistory := t.lineHistory
    inputs := t.inputs, converterPointer := t.converterPointer, recognizer := t.recognizer
    latch := t.latch, doneOwed := t.doneOwed, accumulators := t.accumulators
    intervalPartial := t.intervalPartial, pfailAsserted := t.pfailAsserted
    retainDuration := t.retainDuration
    prescaler := { s.prescaler with early := t.prescaler.early }
    store := { s.store with
      quantities := t.store.quantities, rights := t.store.rights, sourceMode := t.store.sourceMode
      activeTariff := t.store.activeTariff, closeOptions := t.store.closeOptions
      channels := t.store.channels, intervalIndex := t.store.intervalIndex
      periodNumber := t.store.periodNumber, periodDuration := t.store.periodDuration
      overdueHeld := t.store.overdueHeld, signature := t.store.signature
      coldMarker := t.store.coldMarker } }

/-- Some block holds what only a part with VDD can hold (R185), or the part drains. -/
def Working (s : State) : Prop :=
  s.portsUp = true ∨ (∃ p : PortId, s.ports[p].execution ≠ none) ∨ s.engine ≠ .halted
    ∨ s.captureQueue ≠ [] ∨ s.supply = .drain

/-- The part is in RUN-SUPPLY, as far as a block can tell: it says so, or the block works and the part is not
draining. -/
def Counting (s₀ s : State) : Prop :=
  s.supply = .runSupply ∨ (Working s₀ ∧ s.supply ≠ .drain)

/-- A port keeps the law of its queue, and a command enters execution in a part at work only. -/
def PortMove (s₀ : State) (q q' : Port) : Prop :=
  (WellQueued q → WellQueued q')
    ∧ (q'.execution ≠ none → q.execution ≠ none ∨ Working s₀)

/-- A register that R6 counts: LIVE or OVERFLOWED. -/
abbrev Claims (r : RegisterRec) : Prop := r.state = .live ∨ r.state = .overflowed

/-- Two registers bound to one quantity and selector. -/
abbrev SamePair (r r' : RegisterRec) : Prop := r.quantity = r'.quantity ∧ r.selector = r'.selector

/-- A record that can be written to a slot as far as R6 goes: it counts as the one before it did, or no other
slot counts with its pair. -/
def PairKept (s : State) (i : RegSlot) (r : RegisterRec) : Prop :=
  Claims r → (Claims s.store.registers[i] ∧ SamePair s.store.registers[i] r)
    ∨ ∀ j : RegSlot, j ≠ i → Claims s.store.registers[j] → ¬ SamePair s.store.registers[j] r

/-- A record written where no application is in flight, or one that is SUSPECT (R9, R12). -/
def RegisterMove (s : State) (i : RegSlot) (r : RegisterRec) : Prop :=
  PairKept s i r ∧ (r.state = .suspect ∨ s.store.mode = .setup ∨ s.engine = .closing)

/-- R47 for one input. -/
def PulseFits (d : PulseDef) (c : PulseCount) : Prop :=
  c.pending ≤ pendingLimit ∧ c.remainder < 10 ^ d.fraction
    ∧ (d.enabled = false → c.pending = 0 ∧ c.remainder = 0)

/-- An entry of the chain table written: it fits, on its old segments or on free ones (R135), and DEMAND starts
to run in RUN-SUPPLY only (R139). -/
structure ChainMove (s₀ s : State) (f : ChainFn) (c : Chain) : Prop where
  fits : ChainFits (chainOf s.store.chains f) → ChainFits c
  apart : assigned c = true →
    (assigned (chainOf s.store.chains f) = true ∧ c.first = (chainOf s.store.chains f).first
      ∧ c.length = (chainOf s.store.chains f).length)
    ∨ ∀ g : ChainFn, g ≠ f → Apart c (chainOf s.store.chains g)
  demand : f = .demand → c.state = .running →
    s.store.chains.demand.state = .running ∨ Counting s₀ s

/-- A slot freed, kept by its holder, or given to a port that holds fewer than two (R118). -/
def SlotMove (s : State) (i : SnapId) (x : SnapSlot) : Prop :=
  slotHolder x = none ∨ slotHolder x = slotHolder s.slots[i]
    ∨ ∃ p, slotHolder x = some p ∧ slotCount s p < 2

/-- R22 for a queue. -/
def QueueFits (l : List Increment) : Prop := l.length ≤ queueLimit ∧ l.countP fromPort ≤ 28

/-- The engine turns to other work than a close (R32, R33, R40): it halts in SETUP only, takes the work of RUN
where it was READY or the mode is another, and the targets it takes are the registers as they stand (R9). -/
structure EngineMove (s₀ s : State) (e : Engine) : Prop where
  from_other : s.engine ≠ .closing
  to_other : e ≠ .closing
  working : e ≠ .halted → s.engine ≠ .halted ∨ Working s₀
  halted : e = .halted → s.store.mode = .setup
  setup : s.store.mode = .setup →
    e = .halted ∨ (∃ i w copies stamp, e = .capturing i w copies stamp) ∨ s.engine = .ready
  targets : ∀ t ∈ targetsInFlight e, s.store.registers[t.slot] = t.record

/-- One act of a block on the state, `s₀` being the state in which the step began. -/
inductive Act (s₀ s : State) : State → Prop
  | quiet {t : State} (h : Quiet s t) : Act s₀ s t
  | ports (v : Vector Port 3) (h : ∀ p : PortId, PortMove s₀ s.ports[p] v[p]) :
    Act s₀ s { s with ports := v }
  | register (i : RegSlot) (r : RegisterRec) (h : RegisterMove s i r) : Act s₀ s (setRegister i r s)
  | log (l : PeriodLog) (h : l.entries.length ≤ s.store.log.entries.length
      ∧ bytesUsed l.entries ≤ bytesUsed s.store.log.entries) :
    Act s₀ s (onStore (fun st => { st with log := l }) s)
  | input (n : InputId) (d : PulseDef) (c : PulseCount)
      (h : PulseFits s.store.pulseDefs[n] s.store.pulseCounts[n] → PulseFits d c) :
    Act s₀ s (onStore (fun st =>
      { st with pulseDefs := st.pulseDefs.set n d, pulseCounts := st.pulseCounts.set n c }) s)
  | chain (f : ChainFn) (c : Chain) (h : ChainMove s₀ s f c) : Act s₀ s (onChain f (fun _ => c) s)
  | slot (i : SnapId) (x : SnapSlot) (h : SlotMove s i x) :
    Act s₀ s { s with slots := s.slots.set i x }
  | captures (l : List SnapId) (h : l ≠ [] → s.captureQueue ≠ [] ∨ Working s₀) :
    Act s₀ s { s with captureQueue := l }
  | queue (l : List Increment) (h : QueueFits s.queue → QueueFits l)
      (hw : l ≠ [] → s.queue ≠ [] ∨ Working s₀ ∨ s.supply = .runSupply) :
    Act s₀ s { s with queue := l }
  | engine (e : Engine) (h : EngineMove s₀ s e) : Act s₀ s { s with engine := e }
  | claim (c : Option PortId)
      (h : c ≠ none → s.claim ≠ none ∨ s.store.mode = .setup ∧ Counting s₀ s) :
    Act s₀ s { s with claim := c }
  | reopen (r : Option Reopen) (h : r = none ↔ s.reopen = none) : Act s₀ s { s with reopen := r }
  | close (cause : Cause) (requester : Option PortId) (hidle : AsleepLaw s₀ → s.closeState = .idle)
      (hcause : cause = .setup ↔ s.store.mode = .enteringSetup) (hc : Counting s₀ s) :
    Act s₀ s (takeClose cause requester s)
  | write (b : Building) (l : PeriodLog) (hreq : s.closeState = .requested)
      (hready : s.engine = .ready) (hlen : l.entries.length < logRecordLimit)
      (hbytes : bytesUsed l.entries + b.bytes.length ≤ logByteLimit) :
    Act s₀ s { s with
      closeState := .writing, engine := .closing, building := some b
      store := { s.store with log := l } }
  | run (hmode : s.store.mode = .setup) (hcap : capturing s = false) (hc : Counting s₀ s) :
    Act s₀ s { s with claim := none, engine := .ready, store := { s.store with mode := .run } }
  | enter (r : Reopen) (hmode : s.store.mode = .run) (hidle : s.closeState = .idle)
      (hc : Counting s₀ s) :
    Act s₀ s { s with reopen := some r, store := { s.store with mode := .enteringSetup } }
  | up (h : s.supply = .runSupply) : Act s₀ s { s with portsUp := true }
  | phase (c : Prescaler) (h : PhaseLaw s₀ → PhaseLaw { s with prescaler := c }) :
    Act s₀ s { s with prescaler := c }

/-- A run of acts. -/
def Acts (s₀ : State) : State → State → Prop := Relation.ReflTransGen (Act s₀)

theorem Acts.refl (s₀ s : State) : Acts s₀ s s := Relation.ReflTransGen.refl

theorem Acts.trans {s₀ s t u : State} (h : Acts s₀ s t) (h' : Acts s₀ t u) : Acts s₀ s u :=
  Relation.ReflTransGen.trans h h'

theorem Act.acts {s₀ s t : State} (h : Act s₀ s t) : Acts s₀ s t := Relation.ReflTransGen.single h

theorem Quiet.acts {s₀ s t : State} (h : Quiet s t) : Acts s₀ s t := (Act.quiet h).acts

theorem Quiet.refl (s : State) : Quiet s s := rfl

/-- A law that every act keeps is kept by every run of acts. -/
theorem Acts.keeps {s₀ s t : State} {law : State → Prop}
    (hact : ∀ u v, Act s₀ u v → law u → law v) (h : Acts s₀ s t) (hs : law s) : law t := by
  induction h with
  | refl => exact hs
  | tail _ hv ih => exact hact _ _ hv ih

/-- Acts in a row, one for each of a list, where something each needs is kept by all. -/
theorem foldl_acts_of {α : Type} {s₀ : State} {f : State → α → State} (P : State → Prop)
    (hf : ∀ s a, P s → P (f s a) ∧ Acts s₀ s (f s a)) (l : List α) {s : State} (hs : P s) :
    P (l.foldl f s) ∧ Acts s₀ s (l.foldl f s) := by
  induction l generalizing s with
  | nil => exact ⟨hs, Acts.refl _ _⟩
  | cons a l ih =>
    obtain ⟨hp, ha⟩ := hf s a hs
    obtain ⟨hp', ha'⟩ := ih hp
    exact ⟨hp', ha.trans ha'⟩

theorem foldl_acts {α : Type} {s₀ : State} {f : State → α → State}
    (hf : ∀ s a, Acts s₀ s (f s a)) (l : List α) (s : State) : Acts s₀ s (l.foldl f s) :=
  (foldl_acts_of (fun _ => True) (fun s a _ => ⟨trivial, hf s a⟩) l trivial).2

/-- Acts where a condition holds, and none where it does not. -/
theorem ite_acts {s₀ s t : State} {c : Prop} [Decidable c] (h : c → Acts s₀ s t) :
    Acts s₀ s (if c then t else s) := by
  split
  next hc => exact h hc
  next => exact Acts.refl _ _

/-! ### Ports -/

theorem PortMove.refl (s₀ : State) (q : Port) : PortMove s₀ q q := ⟨id, .inl⟩

/-- A change of ports that keeps what is in execution. -/
theorem portMove_of_execution_eq {s₀ : State} {q q' : Port} (hn : WellQueued q → WellQueued q')
    (he : q'.execution = q.execution) : PortMove s₀ q q' := ⟨hn, fun h => .inl (he ▸ h)⟩

theorem onPort_acts {s₀ s : State} (p : PortId) (f : Port → Port)
    (h : PortMove s₀ s.ports[p] (f s.ports[p])) : Acts s₀ s (onPort p f s) := by
  refine (Act.ports _ fun q => ?_).acts
  rw [get_set]
  split
  next hpq => exact hpq ▸ h
  next => exact PortMove.refl _ _

theorem offer_acts (s₀ s : State) (p : PortId) (n : Notice) : Acts s₀ s (offer p n s) := by
  rw [offer_frame]
  exact (Act.ports _ fun q => portMove_of_execution_eq (offer_wellQueued p n s q)
    (offer_execution p n s q.val q.isLt)).acts

theorem raise_acts (s₀ s : State) (n : Notice) : Acts s₀ s (raise n s) := by
  rw [raise_frame]
  exact (Act.ports _ fun q => portMove_of_execution_eq (raise_wellQueued n s q)
    (raise_execution n s q.val q.isLt)).acts

theorem openFrame_acts (s₀ s : State) (p : PortId) : Acts s₀ s (openFrame p s) :=
  onPort_acts p _ ⟨id, fun h => .inl fun h' => h (by simpa using h')⟩

theorem setWire_acts (s₀ s : State) (p : PortId) (w : Wire) : Acts s₀ s (setWire p w s) :=
  onPort_acts p _ (portMove_of_execution_eq id rfl)

theorem giveResult_acts (s₀ s : State) (p : PortId) (ex : Execution) (st : Status)
    (data : List Byte) : Acts s₀ s (giveResult p ex st data s) :=
  onPort_acts p _ ⟨id, fun h => absurd rfl h⟩

/-! ### Registers -/

/-- A record that does not count under R6. -/
theorem pairKept_of_suspect {s : State} {i : RegSlot} {r : RegisterRec} (h : r.state = .suspect) :
    PairKept s i r := by
  intro hc
  rcases hc with hc | hc <;> rw [h] at hc <;> cases hc

theorem setRegister_suspect_acts (s₀ s : State) (i : RegSlot) {r : RegisterRec}
    (h : r.state = .suspect) : Acts s₀ s (setRegister i r s) :=
  (Act.register i r ⟨pairKept_of_suspect h, .inl h⟩).acts

theorem verifyRegister_acts (s₀ : State) (f : FoundAt) (s : State) (i : RegSlot) :
    Acts s₀ s (verifyRegister f s i) := by
  unfold verifyRegister
  dsimp only
  split
  next => exact Acts.refl _ _
  next =>
    split
    next hs => exact setRegister_suspect_acts s₀ s i hs
    next => exact (setRegister_suspect_acts s₀ s i rfl).trans (raise_acts _ _ _)

/-! ### Chains and demand intervals -/

theorem chainMove_of_segments {s₀ s : State} {f : ChainFn} {c : Chain}
    (hfits : ChainFits (chainOf s.store.chains f) → ChainFits c)
    (ha : assigned c = assigned (chainOf s.store.chains f))
    (hf : c.first = (chainOf s.store.chains f).first)
    (hl : c.length = (chainOf s.store.chains f).length)
    (hd : f = .demand → c.state = .running →
      s.store.chains.demand.state = .running ∨ Counting s₀ s) : ChainMove s₀ s f c :=
  ⟨hfits, fun h => .inl ⟨ha ▸ h, hf, hl⟩, hd⟩

theorem onChain_acts {s₀ s : State} {f : ChainFn} {g : Chain → Chain}
    (h : ChainMove s₀ s f (g (chainOf s.store.chains f))) : Acts s₀ s (onChain f g s) :=
  (Act.chain f _ h).acts

theorem held_running {c : Chain} : (held c).state ≠ .running := by
  unfold held; split <;> simp_all

theorem onChain_held_acts (s₀ s : State) (f : ChainFn) : Acts s₀ s (onChain f held s) :=
  onChain_acts (chainMove_of_segments chainFits_held (assigned_held _) (segments_held _).1
    (segments_held _).2.1 fun _ h => absurd h held_running)

theorem onChain_loaded_acts {s₀ s : State} {f : ChainFn} (h : f = .demand → Counting s₀ s) :
    Acts s₀ s (onChain f loaded s) :=
  onChain_acts (chainMove_of_segments chainFits_loaded (assigned_loaded _) (segments_loaded _).1
    (segments_loaded _).2.1 fun hf _ => .inr (h hf))

theorem onChain_released_inhibit_acts (s₀ s : State) : Acts s₀ s (onChain .inhibit released s) :=
  onChain_acts (chainMove_of_segments chainFits_released (assigned_released _)
    (segments_released _).1 (segments_released _).2.1 fun h => nomatch h)

theorem heldAtReload_running {c : Chain} : (heldAtReload c).state ≠ .running := by
  unfold heldAtReload; split <;> simp_all

theorem chainFits_heldAtReload {c : Chain} (h : ChainFits c) : ChainFits (heldAtReload c) := by
  unfold ChainFits heldAtReload at *
  by_cases hc : c.state = .unassigned <;> simp_all

theorem assigned_heldAtReload (c : Chain) : assigned (heldAtReload c) = assigned c := by
  cases c with | mk a b d e st f => cases st <;> rfl

theorem segments_heldAtReload (c : Chain) :
    (heldAtReload c).first = c.first ∧ (heldAtReload c).length = c.length := by
  unfold heldAtReload; split <;> simp

/-- The count of a chain that counts fits its segments still (R135, R136). -/
theorem countedDown_lt {n count : Nat} (h : count < 4096 ^ n) : countedDown n count < 4096 ^ n := by
  have hp : 0 < 4096 ^ n := Nat.pow_pos (by decide)
  unfold countedDown
  split <;> omega

/-- One tick of a chain changes its state and its count: a DEMAND chain keeps its state, another may expire. -/
theorem chainCounted_eq (f : ChainFn) (c : Chain) : ∃ st n,
    chainCounted f c = { c with state := st, count := n }
      ∧ (st = c.state ∨ st = .expired ∧ f ≠ .demand)
      ∧ (n = c.reload ∨ n = 0 ∨ n = countedDown c.length c.count) := by
  unfold chainCounted
  split
  next =>
    cases f with
    | demand => exact ⟨_, _, rfl, .inl rfl, .inl rfl⟩
    | overdue | inhibit => exact ⟨_, _, rfl, .inr ⟨rfl, by decide⟩, .inr (.inl rfl)⟩
  next => exact ⟨_, _, rfl, .inl rfl, .inr (.inr rfl)⟩

/-- Another state and count that fits, in the same segments. -/
theorem chainFits_counted {c : Chain} {st : ChainState} {n : Nat} (ha : c.state ≠ .unassigned)
    (hst : st ≠ .unassigned) (hn : n = c.reload ∨ n = 0 ∨ n = countedDown c.length c.count)
    (h : ChainFits c) : ChainFits { c with state := st, count := n } := by
  unfold ChainFits at h ⊢
  rw [if_neg ha] at h
  rw [if_neg hst]
  obtain ⟨h1, h2, h3, hreload, hcount⟩ := h
  refine ⟨h1, h2, h3, hreload, ?_⟩
  rcases hn with rfl | rfl | rfl
  · exact hreload
  · exact Nat.pow_pos (by decide)
  · exact countedDown_lt hcount

theorem onChain_chainCounted_acts (s₀ : State) {s : State} {f : ChainFn}
    (h : (chainOf s.store.chains f).state = .running) : Acts s₀ s (onChain f (chainCounted f) s) := by
  obtain ⟨st, n, heq, hst, hn⟩ := chainCounted_eq f (chainOf s.store.chains f)
  have ha : (chainOf s.store.chains f).state ≠ .unassigned := by rw [h]; decide
  have hst' : st ≠ .unassigned := by
    rcases hst with rfl | ⟨rfl, _⟩
    · exact ha
    · decide
  refine onChain_acts ?_
  rw [heq]
  refine chainMove_of_segments (chainFits_counted ha hst' hn) ?_ rfl rfl fun hf _ => .inl ?_
  · simp only [assigned, bne_iff_ne.mpr ha, bne_iff_ne.mpr hst']
  · subst hf; exact h

theorem clearInterval_acts (s₀ s : State) : Acts s₀ s (clearInterval s) := Quiet.acts rfl

theorem partialEnd_acts {s₀ s : State} (h : Counting s₀ s) : Acts s₀ s (partialEnd s) :=
  (Quiet.acts (s := s) (t := onStore raiseIndex (clearInterval s)) rfl).trans
    (onChain_loaded_acts fun _ => h)

theorem judgeChannel_acts (s₀ : State) (t : Tariff) (s : State) (c : ChannelId) :
    Acts s₀ s (judgeChannel t s c) := by
  unfold judgeChannel
  dsimp only
  split
  next => exact Acts.refl _ _
  next =>
    have hpeak : ∀ n ch, Acts s₀ s
        (raise n (onStore (fun st => { st with channels := st.channels.set c ch }) s)) :=
      fun n ch => (Quiet.acts (s := s)
        (t := onStore (fun st => { st with channels := st.channels.set c ch }) s) rfl).trans
          (raise_acts _ _ _)
    have hclear : ∀ u : State, Acts s₀ u { u with accumulators := u.accumulators.set c 0 } :=
      fun u => Quiet.acts rfl
    split
    next => exact (hpeak _ _).trans (hclear _)
    next => exact hclear _

theorem fullEnd_acts (s₀ s : State) : Acts s₀ s (fullEnd s) := by
  have hend : ∀ u : State, Acts s₀ u { onStore raiseIndex u with intervalPartial := false } :=
    fun u => Quiet.acts rfl
  exact (foldl_acts (judgeChannel_acts s₀ s.store.activeTariff) [0, 1, 2, 3] s).trans (hend _)

theorem tariffChange_acts {s₀ s : State} (h : Counting s₀ s) (new : Tariff) (source : SourceMode)
    (port : Option PortId) : Acts s₀ s (tariffChange new source port s) :=
  ((Quiet.acts (s := s) (t := onStore (fun st => { st with activeTariff := new }) s) rfl).trans
    (partialEnd_acts h)).trans (raise_acts _ _ _)

/-! ### Closes -/

theorem takeClose_acts {s₀ s : State} {cause : Cause} (requester : Option PortId)
    (hidle : AsleepLaw s₀ → s.closeState = .idle)
    (hcause : cause = .setup ↔ s.store.mode = .enteringSetup) (hc : Counting s₀ s) :
    Acts s₀ s (takeClose cause requester s) :=
  (Act.close cause requester hidle hcause hc).acts

/-- A close other than the SETUP close, taken in RUN. -/
theorem takeClose_run_acts {s₀ s : State} {cause : Cause} (requester : Option PortId)
    (hcause : cause ≠ .setup) (hidle : AsleepLaw s₀ → s.closeState = .idle) (hmode : s.store.mode = .run)
    (hc : s.supply = .runSupply) : Acts s₀ s (takeClose cause requester s) :=
  takeClose_acts requester hidle ⟨fun h => absurd h hcause, fun h => by rw [hmode] at h; cases h⟩
    (.inl hc)

theorem examineLatch_acts (s₀ s : State) : Acts s₀ s (examineLatch s) := by
  unfold examineLatch
  refine ite_acts fun ⟨_, hidle, hmode, hsupply⟩ => ?_
  have hline : Acts s₀ s (takeClose .line none s) :=
    takeClose_run_acts none (by decide) (fun _ => hidle) hmode hsupply
  split
  next => exact Acts.refl _ _
  next =>
    split
    next => exact Quiet.acts rfl
    next => exact hline
  next =>
    split
    next => exact Acts.refl _ _
    next => exact hline

/-! ### Snapshot slots -/

/-- The capture in progress marked withdrawn, or not. -/
theorem capturing_acts (s₀ : State) {s : State} {j : SnapId} {w : Bool} {copies : List CapturedEntry}
    {stamp : Stamp} (h : s.engine = .capturing j w copies stamp) (b : Bool) :
    Acts s₀ s { s with engine := .capturing j b copies stamp } := by
  refine (Act.engine _ ⟨?_, ?_, fun _ => .inl ?_, ?_, fun _ => .inr (.inl ⟨_, _, _, _, rfl⟩),
    fun _ ht => nomatch ht⟩).acts
  · rw [h]; exact (nomatch ·)
  · exact (nomatch ·)
  · rw [h]; exact (nomatch ·)
  · exact (nomatch ·)

theorem withdrawCapture_acts (s₀ : State) (i : SnapId) (s : State) :
    Acts s₀ s (withdrawCapture i s) := by
  have hc : Acts s₀ s { s with captureQueue := s.captureQueue.filter (· != i) } :=
    (Act.captures _ fun h => .inl fun h' => h (by rw [h']; rfl)).acts
  have he {j w copies stamp} (h : s.engine = .capturing j w copies stamp) (b : Bool) :=
    hc.trans (capturing_acts s₀ (s := { s with captureQueue := s.captureQueue.filter (· != i) }) h b)
  unfold withdrawCapture
  split
  next j w copies stamp h =>
    split
    next hj => subst hj; exact he h true
    next => exact he h w
  next => exact hc

theorem freeSlot_acts (s₀ s : State) (i : SnapId) : Acts s₀ s (freeSlot s i) :=
  (Act.slot i .free (.inl rfl)).acts.trans (withdrawCapture_acts _ _ _)

theorem freeSlotsOf_acts (s₀ : State) (p : PortId) (s : State) : Acts s₀ s (freeSlotsOf p s) :=
  foldl_acts (fun s i => ite_acts fun _ => freeSlot_acts s₀ s i) _ s

theorem freeAllSlots_acts (s₀ s : State) : Acts s₀ s (freeAllSlots s) :=
  foldl_acts (freeSlot_acts s₀) _ s

theorem dropClaim_acts (s₀ s : State) : Acts s₀ s { s with claim := none } :=
  (Act.claim none fun h => absurd rfl h).acts

theorem resetPort_acts (s₀ s : State) (p : PortId) : Acts s₀ s (resetPort s p) := by
  unfold resetPort
  dsimp only
  generalize hu : onPort p _ s = u
  have h1 : Acts s₀ s u := hu ▸ onPort_acts p _ ⟨fun _ => ⟨Nat.zero_le _, rfl⟩, .inl⟩
  have h2 := h1.trans (freeSlotsOf_acts s₀ p u)
  generalize freeSlotsOf p u = v at h2 ⊢
  have h3 : Acts s₀ v { v with claim := if v.claim = some p then none else v.claim } := by
    refine (Act.claim _ fun h => .inl fun h' => h ?_).acts
    rw [h']; split <;> rfl
  have h4 : ∀ u : State, Acts s₀ u { u with
      reopen := u.reopen.map fun r => if r.requester = p then { r with owed := false } else r } :=
    fun u => (Act.reopen _ (by simp)).acts
  have h5 : ∀ (u : State) (b : Bool), Acts s₀ u { u with doneOwed := b } := fun u b => Quiet.acts rfl
  exact ((h2.trans h3).trans (h4 _)).trans (h5 _ _)

end Sys2Proof.Machine
end

section
/-! The acts of the commands: what each command's own block can do to the state, and what the taking of a frame
can (R146 to R149). -/

namespace Sys2Proof.Machine

/-- A check of a command's own block: refused, nothing changes. -/
theorem ite_refuse_acts {s₀ s : State} {c : Prop} [Decidable c] {st : Status} {r : Reply}
    (h : ¬ c → Acts s₀ s r.state) : Acts s₀ s (if c then refuse s st else r).state := by
  split
  next => exact Acts.refl _ _
  next hc => exact h hc

/-! ### Registers (R2, R6 to R8, R17) -/

/-- No other slot in use is bound to the pair (R6, R8). -/
theorem pairTaken_eq_false_iff {st : Store} {i : RegSlot} {q : Quantity} {sel : BitVec 3} :
    pairTaken st i q sel = false ↔ ∀ j : RegSlot, j ≠ i → st.registers[j].state ≠ .free →
      st.registers[j].quantity ≠ q ∨ st.registers[j].selector ≠ sel := by
  simp only [pairTaken, List.any_eq_false, List.mem_finRange, true_imp_iff, Bool.and_eq_true,
    bne_iff_ne, beq_iff_eq, not_and, ne_eq, ← imp_iff_not_or, and_imp]

theorem Claims.not_free {r : RegisterRec} (h : Claims r) : r.state ≠ .free := by
  rcases h with h | h <;> rw [h] <;> decide

theorem pairKept_of_not_taken {s : State} {i : RegSlot} {r : RegisterRec}
    (h : pairTaken s.store i r.quantity r.selector = false) : PairKept s i r :=
  fun _ => .inr fun j hj hc ⟨hq, hsel⟩ =>
    (pairTaken_eq_false_iff.mp h j hj hc.not_free).elim (fun h => h hq) (fun h => h hsel)

theorem pairKept_of_same {s : State} {i : RegSlot} {r : RegisterRec}
    (hc : Claims r → Claims s.store.registers[i]) (hp : SamePair s.store.registers[i] r) :
    PairKept s i r := fun h => .inl ⟨hc h, hp⟩

/-- An edit of a register in SETUP. -/
theorem setRegister_setup_acts (s₀ : State) {s : State} {i : RegSlot} {r : RegisterRec}
    (hm : s.store.mode = .setup) (hp : PairKept s i r) : Acts s₀ s (setRegister i r s) :=
  (Act.register i r ⟨hp, .inr (.inl hm)⟩).acts

theorem putRegister_setup_acts (s₀ : State) {s : State} {i : RegSlot} {r : RegisterRec}
    (hm : s.store.mode = .setup) (hp : PairKept s i r) : Acts s₀ s (putRegister i r s) :=
  setRegister_setup_acts s₀ hm hp

theorem doReadRegister_acts (s₀ : State) (p : PortId) (args : List Byte) (s : State) :
    Acts s₀ s (doReadRegister p args s).state := by
  unfold doReadRegister
  split
  next => exact Acts.refl _ _
  next i _ => exact verifyRegister_acts s₀ .read s i

theorem doDefineQuantity_acts (s₀ : State) (p : PortId) (args : List Byte) (s : State) :
    Acts s₀ s (doDefineQuantity p args s).state := by
  unfold doDefineQuantity
  split
  next => exact ite_refuse_acts fun _ => Quiet.acts rfl
  next => exact Acts.refl _ _

theorem doBindRegister_acts (s₀ : State) (p : PortId) (args : List Byte) {s : State}
    (hm : s.store.mode = .setup) : Acts s₀ s (doBindRegister p args s).state := by
  unfold doBindRegister
  split
  next =>
    exact ite_refuse_acts fun _ => ite_refuse_acts fun _ => ite_refuse_acts fun ht =>
      putRegister_setup_acts s₀ hm (pairKept_of_not_taken (Bool.not_eq_true _ ▸ ht))
  next => exact Acts.refl _ _

theorem doUnbindRegister_acts (s₀ : State) (p : PortId) (args : List Byte) {s : State}
    (hm : s.store.mode = .setup) : Acts s₀ s (doUnbindRegister p args s).state := by
  unfold doUnbindRegister
  split
  next => exact Acts.refl _ _
  next =>
    exact ite_refuse_acts fun _ =>
      setRegister_setup_acts s₀ hm fun h => absurd rfl (Claims.not_free h)

theorem doSetRegisterOptions_acts (s₀ : State) (p : PortId) (args : List Byte) {s : State}
    (hm : s.store.mode = .setup) : Acts s₀ s (doSetRegisterOptions p args s).state := by
  unfold doSetRegisterOptions
  split
  next i _ _ _ _ _ _ _ =>
    exact ite_refuse_acts fun _ => (verifyRegister_acts s₀ .edit s i).trans
        (putRegister_setup_acts s₀ (by rw [verifyRegister_store_mode, hm])
          (pairKept_of_same id ⟨rfl, rfl⟩))
  next => exact Acts.refl _ _

/-- A register that is not FREE made LIVE: it counted before, or it was SUSPECT and can stand (R8). -/
theorem pairKept_of_canStandLive {s : State} {i : RegSlot} {r : RegisterRec}
    (hfree : s.store.registers[i].state ≠ .free)
    (hstand : s.store.registers[i].state = .suspect → canStandLive s.store i = true)
    (hp : SamePair s.store.registers[i] r) : PairKept s i r := by
  cases hs : s.store.registers[i].state with
  | free => exact absurd hs hfree
  | live => exact pairKept_of_same (fun _ => .inl hs) hp
  | overflowed => exact pairKept_of_same (fun _ => .inr hs) hp
  | suspect =>
    have h := hstand hs
    simp only [canStandLive, Bool.and_eq_true, Bool.not_eq_true'] at h
    exact pairKept_of_not_taken (hp.1 ▸ hp.2 ▸ h.2)

theorem doClearRegister_acts (s₀ : State) (p : PortId) (args : List Byte) {s : State}
    (hm : s.store.mode = .setup) : Acts s₀ s (doClearRegister p args s).state := by
  unfold doClearRegister
  split
  next => exact Acts.refl _ _
  next i _ =>
    dsimp only
    split
    next => exact Acts.refl _ _
    next h =>
      simp only [not_or, not_and, Bool.not_eq_false] at h
      exact putRegister_setup_acts s₀ hm (pairKept_of_canStandLive h.1 h.2 ⟨rfl, rfl⟩)

theorem doAcceptRegister_acts (s₀ : State) (p : PortId) (args : List Byte) {s : State}
    (hm : s.store.mode = .setup) : Acts s₀ s (doAcceptRegister p args s).state := by
  unfold doAcceptRegister
  split
  next => exact Acts.refl _ _
  next i _ =>
    dsimp only
    split
    next => exact Acts.refl _ _
    next h =>
      simp only [not_or, not_not, Bool.not_eq_false] at h
      exact putRegister_setup_acts s₀ hm
        (pairKept_of_canStandLive (by rw [h.1]; decide) (fun _ => h.2) ⟨rfl, rfl⟩)

/-! ### Pulse inputs (R61 to R63) -/

theorem onCount_acts (s₀ : State) {s : State} {n : InputId} {f : PulseCount → PulseCount}
    (h : PulseFits s.store.pulseDefs[n] s.store.pulseCounts[n] →
      PulseFits s.store.pulseDefs[n] (f s.store.pulseCounts[n])) : Acts s₀ s (onCount n f s) := by
  have hset : s.store.pulseDefs.set n s.store.pulseDefs[n] = s.store.pulseDefs :=
    Vector.set_getElem_self _
  have ha : Acts s₀ s { s with store := { s.store with
      pulseDefs := s.store.pulseDefs.set n s.store.pulseDefs[n]
      pulseCounts := s.store.pulseCounts.set n (f s.store.pulseCounts[n]) } } :=
    (Act.input n s.store.pulseDefs[n] (f s.store.pulseCounts[n]) h).acts
  rw [hset] at ha
  exact ha

theorem pulseFits_zero (d : PulseDef) : PulseFits d zeroPulseCount :=
  ⟨Nat.zero_le _, Nat.pow_pos (by decide), fun _ => ⟨rfl, rfl⟩⟩

theorem writeSignature_acts (s₀ s : State) : Acts s₀ s (onStore writeSignature s) := Quiet.acts rfl

theorem onInput_acts (s₀ s : State) (n : InputId) (f : InputRun → InputRun) :
    Acts s₀ s (onInput n f s) := Quiet.acts rfl

theorem doDefinePulseInput_acts (s₀ : State) (p : PortId) (args : List Byte) (s : State) :
    Acts s₀ s (doDefinePulseInput p args s).state := by
  unfold doDefinePulseInput
  split
  next n d _ _ _ =>
    exact ite_refuse_acts fun _ => ite_refuse_acts fun _ =>
      ((Act.input n d zeroPulseCount fun _ => pulseFits_zero d).acts.trans
        (writeSignature_acts _ _)).trans (onInput_acts _ _ _ _)
  next => exact Acts.refl _ _

theorem doReadPulseInput_acts (s₀ : State) (p : PortId) (args : List Byte) (s : State) :
    Acts s₀ s (doReadPulseInput p args s).state := by
  unfold doReadPulseInput
  split
  next => exact ite_acts fun _ => onCount_acts s₀ id
  next => exact Acts.refl _ _

/-! ### The other edits (R74, R86, R91, R115, R142, R175) -/

theorem doDefineDemandChannel_acts (s₀ : State) (p : PortId) (args : List Byte) (s : State) :
    Acts s₀ s (doDefineDemandChannel p args s).state := by
  unfold doDefineDemandChannel
  split
  next => exact ite_refuse_acts fun _ => ite_refuse_acts fun _ => Quiet.acts rfl
  next => exact Acts.refl _ _

theorem doSetTariffSource_acts (s₀ : State) (p : PortId) (args : List Byte) (s : State) :
    Acts s₀ s (doSetTariffSource p args s).state := by
  unfold doSetTariffSource
  split
  next =>
    split
    next => exact Acts.refl _ _
    next => exact Quiet.acts rfl
  next => exact Acts.refl _ _

theorem doSetCloseOptions_acts (s₀ : State) (p : PortId) (args : List Byte) (s : State) :
    Acts s₀ s (doSetCloseOptions p args s).state := by
  unfold doSetCloseOptions
  split
  next => exact Quiet.acts rfl
  next => exact Acts.refl _ _

theorem doSetRights_acts (s₀ : State) (p : PortId) (args : List Byte) (s : State) :
    Acts s₀ s (doSetRights p args s).state := by
  unfold doSetRights
  split
  next => exact Quiet.acts rfl
  next => exact Acts.refl _ _

theorem doClearLog_acts (s₀ : State) (p : PortId) (args : List Byte) (s : State) :
    Acts s₀ s (doClearLog p args s).state :=
  (Act.log (logOf []) ⟨Nat.zero_le _, Nat.zero_le _⟩).acts

/-- What the arguments of DEFINE CHAIN give where they give an entry (R142 checks 2 and 3). -/
theorem parseChain_spec {args : List Byte} {c : Chain} (h : parseChain args = some c) :
    c.state = .stopped ∧ 1 ≤ c.length ∧ c.first + c.length ≤ 4 ∧ 1 ≤ c.reload
      ∧ c.reload < 4096 ^ c.length ∧ c.count = 0 := by
  simp only [parseChain, inRange, Option.bind_eq_bind, Option.bind_eq_some_iff, Option.pure_def,
    Option.ite_none_right_eq_some, Option.some.injEq] at h
  obtain ⟨_, ⟨_, rfl⟩, n, ⟨⟨hn, _⟩, rfl⟩, tick, _, reload, ⟨⟨hr, hr'⟩, rfl⟩, hf, rfl⟩ := h
  have hp : 0 < 4096 ^ (arg args 3).toNat := Nat.pow_pos (by decide)
  exact ⟨rfl, hn, hf, hr, by dsimp only; omega, rfl⟩

theorem assigned_iff {c : Chain} : assigned c = true ↔ c.state ≠ .unassigned := bne_iff_ne

/-- Two runs of segments share none, where the chain is assigned. -/
theorem sharesSegment_eq_false_iff {first n : Nat} {c : Chain} : sharesSegment first n c = false ↔
    (assigned c = true → first + n ≤ c.first ∨ c.first + c.length ≤ first) := by
  rw [sharesSegment, Bool.and_eq_false_iff, decide_eq_false_iff_not, not_and_or, not_lt, not_lt,
    ← Bool.not_eq_true, ← imp_iff_not_or]
  exact ⟨fun h ha => (h ha).symm, fun h ha => (h ha).symm⟩

theorem overlapsOther_eq_false_iff {cs : Chains} {f : ChainFn} {first n : Nat} :
    overlapsOther cs f first n = false ↔
      ∀ g : ChainFn, g ≠ f → sharesSegment first n (chainOf cs g) = false := by
  constructor
  · intro h g hg
    have hm : g ∈ [ChainFn.demand, .overdue, .inhibit] := by cases g <;> decide
    have := List.any_eq_false.mp h g hm
    rw [Bool.and_eq_true, not_and, bne_iff_ne, Bool.not_eq_true] at this
    exact this hg
  · intro h
    refine List.any_eq_false.mpr fun g _ => ?_
    rw [Bool.and_eq_true, not_and, bne_iff_ne, Bool.not_eq_true]
    exact h g

theorem chainFits_unassigned : ChainFits unassignedChain := by
  simp [ChainFits, unassignedChain]

theorem doDefineChain_acts (s₀ : State) (p : PortId) (args : List Byte) (s : State) :
    Acts s₀ s (doDefineChain p args s).state := by
  have write (f : ChainFn) (c : Chain) (h : ChainMove s₀ s f c) : Acts s₀ s
      (onConfiguration (fun st => { st with chains := withChain st.chains f c }) s) :=
    (Act.chain f c h).acts.trans (writeSignature_acts _ _)
  unfold doDefineChain
  split
  next f _ _ =>
    exact write f _ ⟨fun _ => chainFits_unassigned, fun h => (nomatch h), fun _ h => nomatch h⟩
  next f _ _ =>
    split
    next => exact Acts.refl _ _
    next c hc =>
      split
      next => exact Acts.refl _ _
      next ho =>
        obtain ⟨hst, hn, hfirst, hr, hr', hcount⟩ := parseChain_spec hc
        refine write f c ⟨fun _ => ?_, fun _ => .inr fun g hg _ ha => ?_, fun _ h => ?_⟩
        · rw [ChainFits, if_neg (by rw [hst]; decide)]
          exact ⟨hn, hfirst, hr, hr', by rw [hcount]; exact Nat.pow_pos (by decide)⟩
        · rw [Bool.not_eq_true, overlapsOther_eq_false_iff] at ho
          exact sharesSegment_eq_false_iff.mp (ho g hg) ha
        · rw [hst] at h; cases h
  next => exact Acts.refl _ _

/-! ### The log, the tariff, the close (R67, R94, R113) -/

/-- A record marked keeps its size, and the log its length. -/
theorem bytesUsed_modify (es : List LogEntry) (k : Nat) {f : LogEntry → LogEntry}
    (h : ∀ e, (f e).size = e.size) : bytesUsed (es.modify k f) = bytesUsed es := by
  induction es generalizing k with
  | nil => cases k <;> rfl
  | cons e es ih =>
    cases k with
    | zero => simp only [List.modify_zero_cons, bytesUsed_cons, h]
    | succ k => simp only [List.modify_succ_cons, bytesUsed_cons, ih]

theorem doReadLog_acts (s₀ : State) (p : PortId) (args : List Byte) (s : State) :
    Acts s₀ s (doReadLog p args s).state := by
  unfold doReadLog
  split
  next =>
    dsimp only
    split
    next =>
      split
      next => exact Acts.refl _ _
      next =>
        split
        next => exact Acts.refl _ _
        next =>
          split
          next =>
            refine (Act.log (markDamaged _ s.store.log) ⟨?_, ?_⟩).acts
            · exact Nat.le_of_eq (List.length_modify ..)
            · exact Nat.le_of_eq (bytesUsed_modify _ _ fun _ => rfl)
          next =>
            split
            next => exact Acts.refl _ _
            next => exact Acts.refl _ _
    next => exact Acts.refl _ _
  next => exact Acts.refl _ _

theorem doSetTariff_acts {s₀ s : State} (hc : Counting s₀ s) (p : PortId) (args : List Byte) :
    Acts s₀ s (doSetTariff p args s).state := by
  unfold doSetTariff
  split
  next => exact Acts.refl _ _
  next =>
    dsimp only
    split
    next => exact Acts.refl _ _
    next => exact tariffChange_acts hc _ _ _

theorem doRequestClose_acts {s₀ s : State} (hc : Counting s₀ s) (p : PortId) (args : List Byte) :
    Acts s₀ s (doRequestClose p args s).state := by
  unfold doRequestClose
  split
  next => exact Acts.refl _ _
  next h =>
    split
    next => exact Acts.refl _ _
    next =>
      rw [not_or, not_not] at h
      exact takeClose_acts (some p) (fun _ => h.2) ⟨fun h => (nomatch h), fun hm => absurd hm h.1⟩ hc

/-! ### Snapshots (R119, R120, R126, R127) -/

theorem doSnapshotOpen_acts {s₀ s : State} (hw : Working s₀) (p : PortId) (args : List Byte) :
    Acts s₀ s (doSnapshotOpen p args s).state := by
  unfold doSnapshotOpen
  split
  next list lease _ _ =>
    refine ite_refuse_acts fun hn => ?_
    split
    next => exact Acts.refl _ _
    next i _ =>
      refine (Act.slot i (.pending ⟨p, list, lease⟩)
        (.inr (.inr ⟨p, rfl, Nat.lt_of_not_le hn⟩))).acts.trans ?_
      exact (Act.captures _ fun _ => .inr hw).acts
  next => exact Acts.refl _ _

theorem doSnapshotRead_state (p : PortId) (args : List Byte) (s : State) :
    (doSnapshotRead p args s).state = s := by
  unfold doSnapshotRead
  split
  next =>
    split
    next => rfl
    next =>
      split
      next => split <;> rfl
      next => rfl
      next => rfl
  next => rfl

theorem doSnapshotRenew_acts (s₀ : State) (p : PortId) (args : List Byte) (s : State) :
    Acts s₀ s (doSnapshotRenew p args s).state := by
  unfold doSnapshotRenew
  split
  next => exact Acts.refl _ _
  next i _ =>
    split
    next => exact Acts.refl _ _
    next =>
      split
      next h => exact (Act.slot i _ (.inr (.inl (by rw [h]; rfl)))).acts
      next => exact Acts.refl _ _
      next => exact Acts.refl _ _

theorem doSnapshotRelease_acts (s₀ : State) (p : PortId) (args : List Byte) (s : State) :
    Acts s₀ s (doSnapshotRelease p args s).state := by
  unfold doSnapshotRelease
  split
  next => exact Acts.refl _ _
  next =>
    split
    next => exact Acts.refl _ _
    next => exact freeSlot_acts _ _ _

/-! ### Setup (R172, R173, R179, R180) -/

theorem doClaimSetup_acts {s₀ s : State} (hm : s.store.mode = .setup) (hc : Counting s₀ s)
    (p : PortId) (args : List Byte) : Acts s₀ s (doClaimSetup p args s).state := by
  unfold doClaimSetup
  split
  next => exact (Act.claim (some p) fun _ => .inr ⟨hm, hc⟩).acts
  next => split <;> exact Acts.refl _ _

theorem committed_acts {s₀ s : State} (hm : s.store.mode = .setup) (hcap : capturing s = false)
    (hc : Counting s₀ s) : Acts s₀ s (committed s) := by
  have h1 := (Act.run hm hcap hc).acts
  have h2 : Acts s₀ { s with claim := none, engine := .ready, store := { s.store with mode := .run } }
      { s with
        claim := none, engine := .ready, lineHistory := none, recognizer := unknownRecognizer
        latch := false, inputs := s.inputs.map fun i => { i with eligible := false }
        store := { s.store with mode := .run, overdueHeld := false } } := Quiet.acts rfl
  exact (((h1.trans h2).trans (partialEnd_acts hc)).trans
    (onChain_loaded_acts (f := .overdue) (nomatch ·))).trans (onChain_released_inhibit_acts _ _)

theorem doCommit_acts {s₀ s : State} (hm : s.store.mode = .setup) (hc : Counting s₀ s)
    {p : PortId} {args : List Byte} (hcap : capturing s = true → passes (doCommit p args s) = false) :
    Acts s₀ s (doCommit p args s).state := by
  unfold doCommit at hcap ⊢
  split
  next => exact Acts.refl _ _
  next h =>
    rw [h] at hcap
    exact committed_acts hm (Bool.eq_false_iff.mpr fun h => nomatch hcap h) hc

theorem doReopen_acts {s₀ s : State} (hm : s.store.mode = .run) (hc : Counting s₀ s) (p : PortId)
    (args : List Byte) : Acts s₀ s (doReopen p args s).state := by
  unfold doReopen
  split
  next => exact Acts.refl _ _
  next h => exact (Act.enter ⟨p, true⟩ hm (not_not.mp h) hc).acts.trans (Quiet.acts rfl)

/-! ### The port's own commands (R154, R155, R158) -/

theorem doReadNotices_acts (s₀ : State) (p : PortId) (args : List Byte) (s : State) :
    Acts s₀ s (doReadNotices p args s).state :=
  onPort_acts p noticesRead
    ⟨fun h => ⟨((List.drop_sublist _ _).length_le).trans h.1, rfl⟩, .inl⟩

theorem doSetNoticeMask_acts (s₀ : State) (p : PortId) (args : List Byte) (s : State) :
    Acts s₀ s (doSetNoticeMask p args s).state := by
  unfold doSetNoticeMask
  split
  next =>
    exact onPort_acts p (fun q => { q with mask := (arg args 0).setWidth 6 }) ⟨id, .inl⟩
  next => exact Acts.refl _ _

theorem doPostIncrement_state (p : PortId) (args : List Byte) (s : State) :
    (doPostIncrement p args s).state = s := by
  unfold doPostIncrement
  split
  next => split <;> rfl
  next => rfl

theorem doReadDemand_state (p : PortId) (args : List Byte) (s : State) :
    (doReadDemand p args s).state = s := by
  unfold doReadDemand; split <;> rfl

theorem doReadConfiguration_state (p : PortId) (args : List Byte) (s : State) :
    (doReadConfiguration p args s).state = s := by
  unfold doReadConfiguration; split <;> rfl

/-! ### The block that owns the command -/

theorem acts_of_eq {s₀ s t : State} (h : t = s) : Acts s₀ s t := h ▸ Acts.refl _ _

/-- What a command's own block does is a run of acts, in the mode and the supply that the common checks let
through. -/
theorem dispatched_acts {s₀ s : State} (hw : Working s₀) {p : PortId} {c : Command}
    (hd : s.supply ≠ .drain) (hm : modeAllowed c.kind s.store.mode = true)
    (hcap : c.kind = .commit → capturing s = true → passes (dispatched p c s) = false) :
    Acts s₀ s (dispatched p c s).state := by
  obtain ⟨k, args⟩ := c
  have hc : Counting s₀ s := .inr ⟨hw, hd⟩
  cases k with
  | readStatus | readLastResult | unknown => exact Acts.refl _ _
  | readRegister => exact doReadRegister_acts s₀ p args s
  | readNotices => exact doReadNotices_acts s₀ p args s
  | setNoticeMask => exact doSetNoticeMask_acts s₀ p args s
  | portReset => exact resetPort_acts s₀ s p
  | postIncrement => exact acts_of_eq (doPostIncrement_state p args s)
  | setTariff => exact doSetTariff_acts hc p args
  | requestClose => exact doRequestClose_acts hc p args
  | readLog => exact doReadLog_acts s₀ p args s
  | readDemand => exact acts_of_eq (doReadDemand_state p args s)
  | readPulseInput => exact doReadPulseInput_acts s₀ p args s
  | snapshotOpen => exact doSnapshotOpen_acts hw p args
  | snapshotRead => exact acts_of_eq (doSnapshotRead_state p args s)
  | snapshotRenew => exact doSnapshotRenew_acts s₀ p args s
  | snapshotRelease => exact doSnapshotRelease_acts s₀ p args s
  | claimSetup => exact doClaimSetup_acts (beq_iff_eq.mp hm) hc p args
  | releaseSetup => exact dropClaim_acts s₀ s
  | defineQuantity => exact doDefineQuantity_acts s₀ p args s
  | bindRegister => exact doBindRegister_acts s₀ p args (beq_iff_eq.mp hm)
  | unbindRegister => exact doUnbindRegister_acts s₀ p args (beq_iff_eq.mp hm)
  | setRegisterOptions => exact doSetRegisterOptions_acts s₀ p args (beq_iff_eq.mp hm)
  | clearRegister => exact doClearRegister_acts s₀ p args (beq_iff_eq.mp hm)
  | acceptRegister => exact doAcceptRegister_acts s₀ p args (beq_iff_eq.mp hm)
  | definePulseInput => exact doDefinePulseInput_acts s₀ p args s
  | defineDemandChannel => exact doDefineDemandChannel_acts s₀ p args s
  | defineChain => exact doDefineChain_acts s₀ p args s
  | setTariffSource => exact doSetTariffSource_acts s₀ p args s
  | setCloseOptions => exact doSetCloseOptions_acts s₀ p args s
  | setRights => exact doSetRights_acts s₀ p args s
  | clearLog => exact doClearLog_acts s₀ p args s
  | commit => exact doCommit_acts (p := p) (args := args) (beq_iff_eq.mp hm) hc (hcap rfl)
  | reopen => exact doReopen_acts (beq_iff_eq.mp hm) hc p args
  | readConfiguration => exact acts_of_eq (doReadConfiguration_state p args s)

theorem modeAllowed_of_modeFits {k : CommandKind} {s : State} (h : modeFits k s = true) :
    modeAllowed k s.store.mode = true := (Bool.and_eq_true_iff.mp h).1

theorem runCommand_acts {s₀ : State} (hw : Working s₀) (p : PortId) (c : Command) (s : State) :
    Acts s₀ s (runCommand p c s).state := by
  unfold runCommand
  split
  next => exact Acts.refl _ _
  next h =>
    obtain ⟨_, _, hd, hm, _⟩ := commonRefusal_eq_none_iff.mp h
    dsimp only
    split
    next => exact Acts.refl _ _
    next hn =>
      refine dispatched_acts hw hd (modeAllowed_of_modeFits hm) fun hk hcap => ?_
      rw [Bool.eq_false_iff]
      exact fun hp => hn ⟨by rw [hk]; rfl, hcap, hp⟩

/-! ### Taking and executing (R146 to R148) -/

theorem runOne_acts {s₀ : State} (hw : Working s₀) (p : PortId) (ex : Execution) (s : State) :
    Acts s₀ s (runOne p ex s) := by
  unfold runOne
  dsimp only
  refine (runCommand_acts hw p ex.command s).trans ?_
  split
  next => exact giveResult_acts _ _ _ _ _ _
  next => exact onPort_acts p _ ⟨id, fun _ => .inr hw⟩

theorem takeWaiting_acts {s₀ : State} (hw : Working s₀) (s : State) (p : PortId) :
    Acts s₀ s (takeWaiting s p) := by
  unfold takeWaiting
  split
  next w _ _ => exact (onPort_acts p _ ⟨id, .inl⟩).trans (runOne_acts hw p w _)
  next => exact Acts.refl _ _

theorem working_of_listening {s : State} (h : listening s = true) : Working s :=
  .inl (Bool.and_eq_true_iff.mp h).1

theorem takeCommand_acts (p : PortId) (kind : CommandKind) (args : List Byte) (s : State) :
    Acts s s (takeCommand p kind args s) := by
  unfold takeCommand
  refine ite_acts fun h => (openFrame_acts s s p).trans ?_
  dsimp only
  split
  next => exact setWire_acts _ _ _ _
  next =>
    split
    next => exact runOne_acts (working_of_listening h) _ _ _
    next =>
      unfold holdWaiting
      split
      next => exact Acts.refl _ _
      next => exact onPort_acts p _ ⟨id, .inl⟩

theorem resumeEdit_acts {s₀ : State} (hw : Working s₀) (s : State) (p : PortId) :
    Acts s₀ s (resumeEdit s p) := by
  unfold resumeEdit
  split
  next => exact ite_acts fun _ => (runOne_acts hw _ _ _).trans (takeWaiting_acts hw _ _)
  next => exact Acts.refl _ _

theorem failWaiting_acts {s₀ : State} (hw : Working s₀) (s : State) (p : PortId) :
    Acts s₀ s (failWaiting s p) := by
  unfold failWaiting
  split
  next => exact (giveResult_acts _ _ _ _ _ _).trans (takeWaiting_acts hw _ _)
  next => exact Acts.refl _ _

/-- An entry of a port placed where at most 27 are queued: 28 of ports at most, and 32 in all (R22, R23). -/
theorem queueFits_port {l : List Increment} (e : Increment) (h : l.length ≤ portFillLimit) :
    QueueFits (l ++ [e]) := by
  have h1 : (l ++ [e]).length = l.length + 1 := List.length_append
  have h2 := List.countP_le_length (p := fromPort) (l := l ++ [e])
  simp only [portFillLimit] at h
  exact ⟨by simp only [queueLimit]; omega, by omega⟩

theorem grantPort_acts {s₀ : State} (hw : Working s₀) (p : PortId) (ex : Execution) (s : State) :
    Acts s₀ s (grantPort p ex s) := by
  unfold grantPort
  dsimp only
  refine Acts.trans (t := { s with arbiterPointer := .port p }) (Quiet.acts rfl)
    (Acts.trans ?_ (takeWaiting_acts hw _ _))
  split
  next q amount _ _ =>
    split
    next => exact giveResult_acts _ _ _ _ _ _
    next =>
      split
      next => exact giveResult_acts _ _ _ _ _ _
      next hfill =>
        exact (Act.queue _ (fun _ => queueFits_port _ (Nat.le_of_not_lt hfill))
          fun _ => .inr (.inl hw)).acts.trans (giveResult_acts _ _ _ _ _ _)
  next => exact giveResult_acts _ _ _ _ _ _

end Sys2Proof.Machine
end

section
/-! The acts of the other rows, and what one step of any row is: a run of acts, or one of the steps that change
the supply state or end the engine's work. -/

namespace Sys2Proof.Machine

/-! ### Frames (R146, R151) -/

theorem readNoticesResponseLost_acts {p : PortId} {s t : State}
    (h : exec (.readNoticesResponseLost p) s = .next t) : Acts s s t := by
  have ht := Host.Outcome.next.inj h
  subst ht
  split
  next =>
    exact onPort_acts p (fun q => { q with overrun := _, wire := .quiet }) ⟨id, .inl⟩
  next => exact ite_acts fun _ => openFrame_acts _ _ _
  next => exact Acts.refl _ _
  next => exact Acts.refl _ _

/-! ### The arbiter (R25 to R28, R58, R59) -/

/-- The arbiter grants a requester that waits. -/
theorem requesterWaits_of_nextGrant {s : State} {r : Requester} (h : nextGrant s = some r) :
    requesterWaits s r = true := by
  have := List.find?_some h
  exact this

theorem portGrant_acts {s t : State} (h : exec .portGrant s = .next t) : Acts s s t := by
  have ht := Host.Outcome.next.inj h
  subst ht
  split
  next p _ =>
    split
    next ex hex =>
      exact grantPort_acts (.inr (.inl ⟨p, by rw [hex]; exact (nomatch ·)⟩)) p ex s
    next => exact Acts.refl _ _
  next => exact Acts.refl _ _
  next => exact Acts.refl _ _

theorem eligible_enabled {s : State} {n : InputId} (h : eligible s n = true) :
    s.store.pulseDefs[n].enabled = true := by
  simp only [eligible, Bool.and_eq_true] at h
  exact h.1.1

/-- What a conversion leaves of the counts of an enabled input (R59). -/
theorem pulseFits_converted {d : PulseDef} {c : PulseCount} (he : d.enabled = true)
    (h : PulseFits d c) : PulseFits d { c with
      pending := c.pending - conversionPulses c
      remainder := conversionProduct d c % 10 ^ d.fraction } :=
  ⟨(Nat.sub_le _ _).trans h.1, Nat.mod_lt _ (Nat.pow_pos (by decide)),
    fun hd => absurd (he.symm.trans hd) (by decide)⟩

/-- The converter's entry placed where fewer than 32 are queued. -/
theorem queueFits_converter {l : List Increment} (q : Quantity) (a : Nat) (t : Tariff)
    (hl : l.length < queueLimit) (h : QueueFits l) : QueueFits (l ++ [⟨q, a, t, .converter⟩]) := by
  refine ⟨?_, ?_⟩
  · rw [List.length_append]; exact hl
  · rw [List.countP_append]; exact h.2

theorem convert_acts {s₀ s : State} {n : InputId} (he : s.store.pulseDefs[n].enabled = true)
    (hl : s.queue.length < queueLimit) (hs : s.supply = .runSupply) : Acts s₀ s (convert n s) := by
  have h1 : Acts s₀ s (onCount n (fun c =>
      { c with
        pending := c.pending - conversionPulses c
        remainder := conversionProduct s.store.pulseDefs[n] c % 10 ^ s.store.pulseDefs[n].fraction })
      s) := onCount_acts s₀ (pulseFits_converted he)
  have h2 : ∀ (u : State) (a : Nat), u.queue.length < queueLimit → u.supply = .runSupply →
      Acts s₀ u (if 1 ≤ a then place s.store.pulseDefs[n].quantity a .converter u else u) :=
    fun u a hl hs => ite_acts fun _ =>
      (Act.queue _ (queueFits_converter _ _ _ hl) fun _ => .inr (.inr hs)).acts
  have h3 : ∀ u : State, Acts s₀ u { u with converterPointer := n, arbiterPointer := .converter } :=
    fun u => Quiet.acts rfl
  exact ((h1.trans (h2 _ _ hl hs)).trans (onInput_acts _ _ _ _)).trans (h3 _)

theorem conversion_acts {s t : State} (h : exec .conversion s = .next t) : Acts s s t := by
  have ht := Host.Outcome.next.inj h
  subst ht
  split
  next hg =>
    have hw := requesterWaits_of_nextGrant hg
    simp only [requesterWaits, converterRequests, converterRuns, Bool.and_eq_true, beq_iff_eq,
      decide_eq_true_eq] at hw
    obtain ⟨⟨⟨_, hsupply⟩, _⟩, hlen⟩ := hw
    split
    next n hn => exact convert_acts (eligible_enabled (List.find?_some hn)) hlen hsupply
    next => exact Acts.refl _ _
  next => exact Acts.refl _ _
  next => exact Acts.refl _ _

/-! ### The engine's starts (R33, R35, R38) -/

theorem ready_of_atServicePoint {s : State} (h : atServicePoint s = true) : s.engine = .ready :=
  beq_iff_eq.mp (Bool.and_eq_true_iff.mp h).1

theorem foldl_verifyRegister_engine (f : FoundAt) (is : List RegSlot) (s : State) :
    (is.foldl (verifyRegister f) s).engine = s.engine := by
  obtain ⟨ps, regs, hf⟩ := foldl_verifyRegister_frame f is s
  rw [hf]

theorem startApplication_acts {s₀ s : State} {e : Increment} {rest : List Increment}
    (hq : s.queue = e :: rest) (hr : s.engine = .ready) :
    Acts s₀ s (startApplication e rest s) := by
  have h1 : Acts s₀ s { s with queue := rest } := by
    refine (Act.queue _ (fun h => ?_) fun _ => .inl (by rw [hq]; exact (nomatch ·))).acts
    rw [hq] at h
    refine ⟨(Nat.le_succ _).trans h.1, (List.Sublist.countP_le (List.sublist_cons_self _ _)).trans h.2⟩
  have h2 := foldl_acts (verifyRegister_acts s₀ .apply) (targetsOf s.store e) { s with queue := rest }
  refine (h1.trans h2).trans ?_
  have heng := (foldl_verifyRegister_engine .apply (targetsOf s.store e)
    { s with queue := rest }).trans hr
  unfold startApplication
  dsimp only
  generalize (targetsOf s.store e).foldl (verifyRegister .apply) { s with queue := rest } = u
    at heng ⊢
  refine (Act.engine _ ⟨?_, ?_, fun _ => .inl ?_, ?_, fun _ => .inr (.inr heng), ?_⟩).acts
  · rw [heng]; exact (nomatch ·)
  · exact (nomatch ·)
  · rw [heng]; exact (nomatch ·)
  · exact (nomatch ·)
  · intro t ht
    obtain ⟨i, _, rfl⟩ := List.mem_map.mp ht
    rfl

theorem applicationStart_acts {s t : State} (h : exec .applicationStart s = .next t) :
    Acts s s t := by
  have ht := Host.Outcome.next.inj h
  subst ht
  split
  next hq =>
    exact ite_acts fun h => startApplication_acts hq (ready_of_atServicePoint h.1)
  next => exact Acts.refl _ _

/-- A capture is taken by an engine that is READY, or HALTED in SETUP. -/
theorem captureTaken_engine {s : State} (h : captureTaken s = true) :
    s.engine = .ready ∨ s.engine = .halted := by
  simp only [captureTaken, Bool.or_eq_true, Bool.and_eq_true, beq_iff_eq] at h
  exact h.imp (fun h => ready_of_atServicePoint h.1) (fun h => h.2)

theorem startCapture_acts {s₀ s : State} (hw : Working s₀) (i : SnapId) (list : List RegSlot)
    (he : s.engine = .ready ∨ s.engine = .halted) : Acts s₀ s (startCapture i list s) := by
  refine (foldl_acts (verifyRegister_acts s₀ .capture) list s).trans ?_
  have heng := foldl_verifyRegister_engine .capture list s
  unfold startCapture
  dsimp only
  generalize list.foldl (verifyRegister .capture) s = u at heng ⊢
  refine (Act.engine _ ⟨?_, ?_, fun _ => .inr hw, ?_, fun _ => .inr (.inl ⟨_, _, _, _, rfl⟩), ?_⟩).acts
  · rw [heng]
    rcases he with he | he <;> rw [he] <;> exact (nomatch ·)
  · exact (nomatch ·)
  · exact (nomatch ·)
  · exact fun _ ht => nomatch ht

theorem captureStart_acts {s t : State} (h : exec .captureStart s = .next t) : Acts s s t := by
  have ht := Host.Outcome.next.inj h
  subst ht
  split
  next i rest hq =>
    split
    next =>
      refine ite_acts fun h => Acts.trans (t := { s with captureQueue := rest }) ?_ ?_
      · exact (Act.captures _ fun _ => .inl (by rw [hq]; exact (nomatch ·))).acts
      · refine startCapture_acts ?_ _ _ (captureTaken_engine h)
        exact .inr (.inr (.inr (.inl (by rw [hq]; exact (nomatch ·)))))
    next => exact Acts.refl _ _
  next => exact Acts.refl _ _

theorem arriveCapture_acts (s₀ : State) (i : SnapId) (withdrawn : Bool)
    (copies : List CapturedEntry) (stamp : Stamp) (s : State) :
    Acts s₀ s (arriveCapture i withdrawn copies stamp s) := by
  unfold arriveCapture
  split
  next h =>
    refine (Act.slot i _ (.inr (.inl ?_))).acts.trans (offer_acts _ _ _ _)
    rw [h]; rfl
  next => exact Acts.refl _ _

theorem arriveCapture_engine (i : SnapId) (withdrawn : Bool) (copies : List CapturedEntry)
    (stamp : Stamp) (s : State) : (arriveCapture i withdrawn copies stamp s).engine = s.engine := by
  unfold arriveCapture
  split
  next => rw [offer_engine]
  next => rfl

theorem captureCompletion_acts {s t : State} (h : exec .captureCompletion s = .next t) :
    Acts s s t := by
  have ht := Host.Outcome.next.inj h
  subst ht
  split
  next i withdrawn copies stamp he =>
    dsimp only
    have hw : Working s := .inr (.inr (.inl (by rw [he]; exact (nomatch ·))))
    refine Acts.trans ?_ (foldl_acts (resumeEdit_acts hw) _ _)
    refine (arriveCapture_acts s i withdrawn copies stamp s).trans ?_
    have heng := (arriveCapture_engine i withdrawn copies stamp s).trans he
    generalize arriveCapture i withdrawn copies stamp s = u at heng
    refine (Act.engine _ ⟨?_, ?_, fun _ => .inr hw, fun h => ?_, fun h => .inl (if_pos h), ?_⟩).acts
    · rw [heng]; exact (nomatch ·)
    · split <;> exact (nomatch ·)
    · by_contra hm; rw [if_neg hm] at h; exact nomatch h
    · split <;> exact fun _ ht => nomatch ht
  next => exact Acts.refl _ _
  next => exact Acts.refl _ _
  next => exact Acts.refl _ _
  next => exact Acts.refl _ _

/-! ### The record of a close (R103 to R106, R170) -/

theorem length_packNibbles : ∀ l : List Digit, (packNibbles l).length = l.length / 2
  | [] => rfl
  | [_] => by simp [packNibbles]
  | _ :: _ :: rest => by
    simp only [packNibbles, List.length_cons, length_packNibbles rest]
    omega

/-- A register entry and a demand entry of a record hold nine bytes each (R170). -/
theorem length_registerEntryBytes (i : RegSlot) (r : RegisterRec) :
    (registerEntryBytes i r).length = 9 := by
  simp [registerEntryBytes, packDigits, length_packNibbles]

theorem length_demandEntryBytes (c : ChannelId) (t : Fin 4) (e : MaxEntry) :
    (demandEntryBytes c t e).length = 9 := by
  simp [demandEntryBytes, length_packedDecimal, length_bigEndian]

theorem length_of_mem_registerEntries {st : Store} : ∀ e ∈ registerEntries st, e.length = 9 := by
  simp only [registerEntries, List.mem_map]
  rintro _ ⟨i, _, rfl⟩
  exact length_registerEntryBytes i _

theorem length_of_mem_demandEntries {st : Store} : ∀ e ∈ demandEntries st, e.length = 9 := by
  intro e he
  obtain ⟨c, _, he⟩ := List.mem_flatMap.mp he
  split at he
  next => exact nomatch he
  next =>
    obtain ⟨t, _, ht⟩ := List.mem_filterMap.mp he
    dsimp only at ht
    split at ht
    next => exact nomatch ht
    next => rw [← Option.some.inj ht]; exact length_demandEntryBytes _ _ _

theorem length_flatten_nines {ls : List (List Byte)} (h : ∀ e ∈ ls, e.length = 9) :
    ls.flatten.length = 9 * ls.length := by
  rw [List.length_flatten, List.map_congr_left (g := fun _ => 9) h]
  simp [Nat.mul_comm]

theorem length_recordBytes (header entries : List Byte) :
    (recordBytes header entries).length = header.length + 2 + entries.length := by
  simp only [recordBytes, List.length_append, length_bigEndian]

theorem length_recordHeader (st : Store) (c : CurrentClose) (m n : Nat) :
    (recordHeader st c m n).length = 12 := by
  simp only [recordHeader, List.length_append, length_bigEndian]
  rfl

/-- A record is its header and check, 14 bytes, and nine bytes an entry (R104, R170). -/
theorem length_buildRecord (st : Store) (c : CurrentClose) :
    (buildRecord st c).length
      = 14 + 9 * ((registerEntries st).length + (demandEntries st).length) := by
  have h : ∀ e ∈ registerEntries st ++ demandEntries st, e.length = 9 := by
    intro e he
    exact (List.mem_append.mp he).elim (length_of_mem_registerEntries e)
      (length_of_mem_demandEntries e)
  simp only [buildRecord, length_recordBytes, length_recordHeader, length_flatten_nines h,
    List.length_append]

theorem length_registerEntries_le (st : Store) : (registerEntries st).length ≤ 32 := by
  rw [registerEntries, List.length_map]
  exact (List.length_filter_le _ _).trans (by simp)

theorem length_demandEntries_le (st : Store) : (demandEntries st).length ≤ 16 := by
  have h : ∀ c : Fin 4, (if st.channels[c].quantity = none then []
      else (List.finRange 4).filterMap fun t =>
        let e := st.channels[c].maxima[t]
        if e.maximum = 0 then none else some (demandEntryBytes c t e)).length ≤ 4 := by
    intro c
    split
    next => exact Nat.zero_le _
    next => exact (List.length_filterMap_le _ _).trans (by simp)
  rw [demandEntries, List.length_flatMap]
  refine (List.sum_le_card_nsmul _ 4 fun x hx => ?_).trans (by simp)
  obtain ⟨c, _, rfl⟩ := List.mem_map.mp hx
  exact h c

/-- A record always fits an empty log (R106). -/
theorem length_buildRecord_le (st : Store) (c : CurrentClose) :
    (buildRecord st c).length ≤ logByteLimit := by
  have h1 := length_registerEntries_le st
  have h2 := length_demandEntries_le st
  rw [length_buildRecord, logByteLimit]
  omega

theorem verifyArchived_acts (s₀ s : State) : Acts s₀ s (verifyArchived s) :=
  foldl_acts (fun s i => ite_acts fun _ => verifyRegister_acts s₀ .close s i) _ s

/-- What the verification of the archived registers changes. -/
theorem verifyArchived_frame (s : State) : ∃ ps regs, verifyArchived s
    = { s with ports := ps, store := { s.store with registers := regs } } := by
  suffices h : ∀ (is : List RegSlot) (s : State), ∃ ps regs,
      is.foldl (fun s i => if archived s.store i then verifyRegister .close s i else s) s
        = { s with ports := ps, store := { s.store with registers := regs } } from h _ s
  intro is
  induction is with
  | nil => exact fun s => ⟨s.ports, s.store.registers, rfl⟩
  | cons i is ih =>
    intro s
    obtain ⟨ps, regs, h⟩ := ih (if archived s.store i then verifyRegister .close s i else s)
    refine ⟨ps, regs, ?_⟩
    rw [List.foldl_cons, h]
    split
    · rw [verifyRegister_frame]
    · rfl

theorem startWriting_acts {s₀ s : State} (c : CurrentClose) (hr : s.engine = .ready)
    (hreq : s.closeState = .requested) : Acts s₀ s (startWriting c s) := by
  refine (verifyArchived_acts s₀ s).trans ?_
  obtain ⟨ps, regs, hf⟩ := verifyArchived_frame s
  have hr : (verifyArchived s).engine = .ready := by rw [hf]; exact hr
  have hreq : (verifyArchived s).closeState = .requested := by rw [hf]; exact hreq
  unfold startWriting
  generalize verifyArchived s = u at hr hreq
  dsimp only
  obtain ⟨_, hle, hlen, hbytes⟩ := trimmed_spec (buildRecord u.store c).length u.store.log.entries
    (length_buildRecord_le _ _)
  split
  next h0 =>
    obtain ⟨hdrop, _⟩ := trimmed_spec (buildRecord u.store c).length u.store.log.entries
      (length_buildRecord_le _ _)
    rw [h0, List.drop_zero] at hdrop
    rw [hdrop] at hlen hbytes
    exact (Act.write ⟨_, _⟩ u.store.log hreq hr hlen hbytes).acts
  next => exact (Act.write ⟨_, _⟩ (logOf _) hreq hr hlen hbytes).acts

theorem writingStart_acts {s t : State} (h : exec .writingStart s = .next t) : Acts s s t := by
  have ht := Host.Outcome.next.inj h
  subst ht
  split
  next c _ =>
    exact ite_acts fun h =>
      startWriting_acts c (ready_of_atServicePoint h.1) (beq_iff_eq.mp h.2)
  next => exact Acts.refl _ _

theorem setupClosePlacement_acts {s t : State} (h : exec .setupClosePlacement s = .next t) :
    Acts s s t := by
  have ht := Host.Outcome.next.inj h
  subst ht
  refine ite_acts fun h => ?_
  simp only [setupCloseDue, Bool.and_eq_true, beq_iff_eq] at h
  obtain ⟨⟨⟨⟨⟨⟨hmode, hsupply⟩, hidle⟩, _⟩, _⟩, _⟩, _⟩ := h
  have h1 : Acts s s (stopConverter s) := Quiet.acts rfl
  exact h1.trans (takeClose_acts _ (fun _ => hidle) ⟨fun _ => hmode, fun _ => rfl⟩ (.inl hsupply))

/-! ### The sample tick (R48 to R54, R95 to R97) -/

theorem countPulse_acts (s₀ : State) {s : State} {n : InputId}
    (he : s.store.pulseDefs[n].enabled = true) : Acts s₀ s (countPulse n s) := by
  have hd : ¬ s.store.pulseDefs[n].enabled = false := by rw [he]; decide
  unfold countPulse
  dsimp only
  split
  next hp =>
    exact onCount_acts s₀ fun h => ⟨hp, h.2.1, fun h => absurd h hd⟩
  next =>
    split
    next => exact Acts.refl _ _
    next =>
      exact (onCount_acts (f := fun c => { c with saturated := true }) s₀ id).trans (raise_acts _ _ _)

theorem judgePulse_acts (s₀ : State) {s : State} {n : InputId}
    (he : s.store.pulseDefs[n].enabled = true) : Acts s₀ s (judgePulse n s) := by
  have hreject : Acts s₀ s (onCount n (fun c => { c with reject := min (c.reject + 1) 255 }) s) :=
    onCount_acts s₀ id
  have hnoise : Acts s₀ s (onCount n (fun c => { c with noise := min (c.noise + 1) 255 }) s) :=
    onCount_acts s₀ id
  unfold judgePulse
  split
  next => exact hreject.trans (onInput_acts _ _ _ _)
  next => exact hreject.trans (onInput_acts _ _ _ _)
  next => exact (hnoise.trans (countPulse_acts s₀ he)).trans (onInput_acts _ _ _ _)
  next => exact (countPulse_acts s₀ he).trans (onInput_acts _ _ _ _)

theorem sampleInput_acts (s₀ : State) (n : InputId) (high : Bool) (s : State) :
    Acts s₀ s (sampleInput n high s) := by
  unfold sampleInput
  dsimp only
  refine ite_acts fun he => (onInput_acts s₀ s n (sampled s.store.pulseDefs[n]
    (judgedActive s.store.pulseDefs[n] high))).trans ?_
  exact ite_acts fun _ => judgePulse_acts s₀ he

theorem tickInput_acts (s₀ : State) (pls : BitVec 8) (s : State) (n : InputId) :
    Acts s₀ s (tickInput pls s n) := by
  unfold tickInput
  split
  next => exact Acts.refl _ _
  next => exact sampleInput_acts s₀ n _ s

theorem sampleCloseIn_acts (s₀ : State) (high : Bool) (s : State) :
    Acts s₀ s (sampleCloseIn high s) := by
  unfold sampleCloseIn
  have h1 : Acts s₀ s { s with recognizer := recognized s.recognizer high } := Quiet.acts rfl
  have h2 : ∀ u : State, Acts s₀ u { u with latch := true } := fun u => Quiet.acts rfl
  have h3 : ∀ u : State, Acts s₀ u { u with latch := false } := fun u => Quiet.acts rfl
  refine ite_acts fun _ => h1.trans ?_
  dsimp only
  split
  next => exact (h2 _).trans (examineLatch_acts _ _)
  next => exact ite_acts fun _ => h3 _
  next => exact Acts.refl _ _

theorem tickCloseIn_acts (s₀ : State) (closein : Bool) (s : State) :
    Acts s₀ s (tickCloseIn closein s) := by
  unfold tickCloseIn
  split
  next => exact Acts.refl _ _
  next => exact sampleCloseIn_acts _ _ _

theorem sampleTick_acts {pls : BitVec 8} {closein : Bool} {s t : State}
    (h : exec (.sampleTick pls closein) s = .next t) : Acts s s t := by
  have ht := Host.Outcome.next.inj h
  subst ht
  refine ite_acts fun hf => ?_
  refine (foldl_acts (tickInput_acts s pls) (List.finRange 8) s).trans
    ((tickCloseIn_acts s closein _).trans ?_)
  exact (Act.phase _ fun h => phaseLaw_sampleCounted h hf rfl).acts

/-! ### The second tick and the minute tick (R57, R69, R90, R128, R138, R189) -/

theorem overdueExpired_acts (s₀ s : State) : Acts s₀ s (overdueExpired s) := by
  have hheld : Acts s₀ s (onStore (fun st => { st with overdueHeld := true }) s) := Quiet.acts rfl
  unfold overdueExpired
  split
  next => exact Acts.refl _ _
  next h =>
    split
    next => exact hheld
    next hw =>
      refine ite_acts fun hmode => ?_
      rw [not_or, not_not] at h hw
      exact takeClose_run_acts none (by decide) (fun _ => h.2) hmode hw.1

theorem inhibitEnded_acts (s₀ s : State) : Acts s₀ s (inhibitEnded s) := by
  unfold inhibitEnded
  refine ite_acts fun ⟨hsupply, hidle, hmode⟩ => ?_
  split
  next => exact takeClose_run_acts none (by decide) (fun _ => hidle) hmode hsupply
  next => exact ite_acts fun _ => takeClose_run_acts none (by decide) (fun _ => hidle) hmode hsupply

theorem expiryDelivered_acts (s₀ : State) (f : ChainFn) (s : State) :
    Acts s₀ s (expiryDelivered f s) := by
  cases f with
  | demand => exact ite_acts fun _ => fullEnd_acts s₀ s
  | overdue => exact overdueExpired_acts s₀ s
  | inhibit => exact inhibitEnded_acts s₀ s

theorem chainTick_acts (s₀ : State) {f : ChainFn} {s : State}
    (h : (chainOf s.store.chains f).state = .running) : Acts s₀ s (chainTick f s) := by
  unfold chainTick
  dsimp only
  split
  next => exact (onChain_chainCounted_acts s₀ h).trans (expiryDelivered_acts _ _ _)
  next => exact onChain_chainCounted_acts s₀ h

theorem tickChain_acts (s₀ : State) (t : ChainTick) (f : ChainFn) (s : State) :
    Acts s₀ s (tickChain t f s) := by
  unfold tickChain
  refine ite_acts fun h => chainTick_acts s₀ ?_
  exact beq_iff_eq.mp (Bool.and_eq_true_iff.mp h.1).1

theorem leaseTick_acts (s₀ s : State) (i : SnapId) : Acts s₀ s (leaseTick s i) := by
  unfold leaseTick
  split
  next h =>
    split
    next => exact (freeSlot_acts _ _ _).trans (offer_acts _ _ _ _)
    next => exact (Act.slot i _ (.inr (.inl (by rw [h]; rfl)))).acts
  next => exact Acts.refl _ _
  next => exact Acts.refl _ _

theorem tickLease_acts (s₀ s : State) (i : SnapId) : Acts s₀ s (tickLease s i) := by
  unfold tickLease
  split
  next => exact Acts.refl _ _
  next => exact leaseTick_acts _ _ _

theorem setMarks_acts (s₀ s : State) : Acts s₀ s (setMarks s) :=
  ite_acts fun _ => Quiet.acts rfl

theorem sampleLines_acts (s₀ : State) (hi lo : Bool) (s : State) :
    Acts s₀ s (sampleLines hi lo s) := by
  unfold sampleLines
  refine ite_acts fun h => ?_
  dsimp only
  have hkeep : ∀ u : State, Acts s₀ u { u with lineHistory := some (selectedTariff hi lo) } :=
    fun u => Quiet.acts rfl
  refine Acts.trans (ite_acts fun _ => ?_) (hkeep _)
  exact tariffChange_acts (.inl (linesSampled_iff.mp h).2.2) _ _ _

theorem retainSecond_acts (s₀ s : State) : Acts s₀ s (retainSecond s) :=
  ite_acts fun _ => Quiet.acts rfl

theorem secondAt_acts (s₀ : State) (hi lo : Bool) (s : State) (x : TickTaker) :
    Acts s₀ s (secondAt hi lo s x) := by
  cases x with
  | marks => exact setMarks_acts s₀ s
  | lines => exact sampleLines_acts s₀ hi lo s
  | leases => exact foldl_acts (tickLease_acts s₀) _ s
  | retainCount => exact retainSecond_acts s₀ s
  | duration => exact Acts.refl _ _
  | chain f => exact tickChain_acts s₀ .second f s

theorem minuteAt_acts (s₀ s : State) (x : TickTaker) : Acts s₀ s (minuteAt s x) := by
  cases x with
  | duration => exact Quiet.acts rfl
  | chain f => exact tickChain_acts s₀ .minute f s
  | marks | lines | leases | retainCount => exact Acts.refl _ _

theorem secondTick_acts {hi lo : Bool} {first : List TickTaker} {s t : State}
    (h : exec (.secondTick hi lo first) s = .next t) : Acts s s t := by
  have ht := Host.Outcome.next.inj h
  subst ht
  refine ite_acts fun hf =>
    (foldl_acts (secondAt_acts s hi lo) (takerOrder first secondTakers) s).trans ?_
  exact (Act.phase _ fun h => phaseLaw_secondCounted h hf rfl).acts

theorem minuteTick_acts {first : List TickTaker} {s t : State}
    (h : exec (.minuteTick first) s = .next t) : Acts s s t := by
  have ht := Host.Outcome.next.inj h
  subst ht
  refine ite_acts fun hf =>
    (foldl_acts (minuteAt_acts s) (takerOrder first minuteTakers) s).trans ?_
  exact (Act.phase _ fun h => phaseLaw_minuteCounted h hf rfl).acts

/-! ### A part of a tick taken ahead (log 4) -/

theorem takeEarly_acts (s₀ : State) (x : TickPart) (s : State) : Acts s₀ s (takeEarly x s) :=
  Quiet.acts rfl

theorem pulseJudgement_acts {n : InputId} {high : Bool} {s t : State}
    (h : exec (.pulseJudgement n high) s = .next t) : Acts s s t := by
  have ht := Host.Outcome.next.inj h
  subst ht
  exact ite_acts fun _ => (sampleInput_acts _ _ _ _).trans (takeEarly_acts _ _ _)

theorem rearmComplete_acts {n : InputId} {s t : State}
    (h : exec (.rearmComplete n) s = .next t) : Acts s s t := by
  have ht := Host.Outcome.next.inj h
  subst ht
  exact ite_acts fun _ => (sampleInput_acts _ _ _ _).trans (takeEarly_acts _ _ _)

theorem closeInEvent_acts (s₀ : State) (high : Bool) (edge : LineEdge) (s : State) :
    Acts s₀ s (closeInEvent high edge s) :=
  ite_acts fun _ => (sampleCloseIn_acts _ _ _).trans (takeEarly_acts _ _ _)

theorem chainEvent_acts (s₀ : State) (f : ChainFn) (s : State) : Acts s₀ s (chainEvent f s) := by
  unfold chainEvent
  refine ite_acts fun ⟨_, _, h⟩ => (chainTick_acts s₀ ?_).trans (takeEarly_acts _ _ _)
  exact beq_iff_eq.mp (Bool.and_eq_true_iff.mp h).1

theorem leaseAhead_acts (s₀ s : State) (i : SnapId) : Acts s₀ s (leaseAhead s i) := by
  unfold leaseAhead
  split
  next => exact Acts.refl _ _
  next => exact (leaseTick_acts _ _ _).trans (takeEarly_acts _ _ _)

theorem leaseExpiry_acts {i : SnapId} {s t : State}
    (h : exec (.leaseExpiry i) s = .next t) : Acts s s t := by
  have ht := Host.Outcome.next.inj h
  subst ht
  exact ite_acts fun _ => foldl_acts (leaseAhead_acts s) _ s

/-! ### The RESET input (R159) -/

theorem get_map {α β : Type} {n : Nat} (v : Vector α n) (f : α → β) (i : Fin n) :
    (v.map f)[i] = f v[i] := Vector.getElem_map ..

theorem resetPin_acts {s t : State} (h : exec .resetPin s = .next t) : Acts s s t := by
  have ht := Host.Outcome.next.inj h
  subst ht
  have hlow : ∀ u : State, Acts s u { u with resetLow := true } := fun u => Quiet.acts rfl
  have howed : ∀ u : State, Acts s u { u with doneOwed := false } := fun u => Quiet.acts rfl
  split
  next => exact Acts.refl _ _
  next =>
    split
    next =>
      have h1 : Acts s s { s with ports := s.ports.map abandoned } := by
        refine (Act.ports _ fun p => ?_).acts
        rw [get_map]
        exact ⟨id, fun h => absurd rfl h⟩
      have h2 := foldl_acts (resetPort_acts s) [0, 1, 2]
        { s with ports := s.ports.map abandoned, resetLow := true }
      have h3 := (h1.trans (hlow _)).trans h2
      dsimp only
      generalize List.foldl resetPort _ _ = u at h3 ⊢
      exact ((h3.trans (freeAllSlots_acts s u)).trans (dropClaim_acts s _)).trans (howed _)
    next => exact hlow s

/-! ### One step -/

/-- What the row at the front of the queue does: a run of acts, or one of the steps that end the engine's work or
change the supply state. -/
inductive RowStep (s : State) : Instr → State → Prop
  | acts {i : Instr} {t : State} (h : Acts s s t) : RowStep s i t
  | applied {e : Increment} {targets : List Target} (h : s.engine = .applying e targets) :
    RowStep s .applicationCompletion (completeApplication e targets s)
  | closed {c : CurrentClose} {b : Building} (he : s.engine = .closing)
      (hc : s.currentClose = some c) (hb : s.building = some b) :
    RowStep s .closeCompletion (completeClose c b s)
  | drained (h : s.supply = .runSupply) :
    RowStep s .drainEntry (enterDrain { s with pfailAsserted := true })
  | retained (h : drainComplete s = true) :
    RowStep s .retainEntry
      { loseVolatile s with retainDuration := 0, supply := retainOrRestore s.pfailAsserted }
  | restored {again : Bool} (pfail : Bool) (h : s.supply = .retain ∨ s.supply = .restore) :
    RowStep s (.restore again) (restored pfail s)
  | poweredUp {deasserted : Bool} (h : s.supply = .unpowered) {t : State}
      (ht : exec (.powerUp deasserted) s = .next t) : RowStep s (.powerUp deasserted) t
  | lost {t : State} (h : s.supply ≠ .unpowered) (ht : exec .lossOfBothSupplies s = .next t) :
    RowStep s .lossOfBothSupplies t

theorem rowStep_of_exec {i : Instr} {s t : State} (h : exec i s = .next t) : RowStep s i t := by
  have hnext := h
  cases i
  case applicationCompletion =>
    cases h
    split
    next e targets he => exact .applied he
    all_goals exact .acts (Acts.refl _ _)
  case closeCompletion =>
    cases h
    split
    next c b he hc hb => exact .closed he hc hb
    next => exact .acts (Acts.refl _ _)
  case drainEntry =>
    cases h
    split
    next => exact .acts (Acts.refl _ _)
    next =>
      dsimp only
      split
      next hs => exact .drained hs
      next => exact .acts (Quiet.acts rfl)
  case retainEntry =>
    cases h
    split
    next hd => exact .retained hd
    next => exact .acts (Acts.refl _ _)
  case restore again =>
    cases h
    split
    next hs => exact .restored _ (.inl hs)
    next hs => exact .restored _ (.inr hs)
    next => exact .acts (Quiet.acts rfl)
    next => exact .acts (Quiet.acts rfl)
    next => exact .acts (Acts.refl _ _)
  case powerUp deasserted =>
    by_cases hs : s.supply = .unpowered
    · exact .poweredUp hs hnext
    · cases h
      rw [if_neg hs]
      exact .acts (Acts.refl _ _)
  case lossOfBothSupplies =>
    by_cases hs : s.supply = .unpowered
    · cases h
      rw [if_pos hs]
      exact .acts (Acts.refl _ _)
    · exact .lost hs hnext
  all_goals refine .acts ?_
  case readNoticesResponseLost => exact readNoticesResponseLost_acts h
  case portGrant => exact portGrant_acts h
  case conversion => exact conversion_acts h
  case applicationStart => exact applicationStart_acts h
  case captureStart => exact captureStart_acts h
  case captureCompletion => exact captureCompletion_acts h
  case writingStart => exact writingStart_acts h
  case setupClosePlacement => exact setupClosePlacement_acts h
  case sampleTick => exact sampleTick_acts h
  case secondTick => exact secondTick_acts h
  case minuteTick => exact minuteTick_acts h
  case pulseJudgement => exact pulseJudgement_acts h
  case rearmComplete => exact rearmComplete_acts h
  case leaseExpiry => exact leaseExpiry_acts h
  case resetPin => exact resetPin_acts h
  all_goals cases h
  case frameError p =>
    exact ite_acts fun _ => (openFrame_acts _ _ p).trans (setWire_acts _ _ _ _)
  case frameDiscarded p => exact ite_acts fun _ => openFrame_acts _ _ p
  case lengthByteAbove60 p =>
    exact ite_acts fun _ => (openFrame_acts _ _ p).trans (setWire_acts _ _ _ _)
  case recognizedFallingEdge => exact closeInEvent_acts _ _ _ _
  case recognizedRisingEdge => exact closeInEvent_acts _ _ _ _
  case demandExpiry => exact chainEvent_acts _ _ _
  case overdueExpiry => exact chainEvent_acts _ _ _
  case inhibitExpiry => exact chainEvent_acts _ _ _
  case resetPinRelease => exact Quiet.acts rfl
  all_goals exact takeCommand_acts _ _ _ _

/-- What one step does. -/
theorem rowStep_of_step {s t : State} (h : step s = .next t) :
    t = s ∨ ∃ i rest, s.pending = i :: rest ∧ RowStep { s with pending := rest } i t := by
  unfold step at h
  split at h
  next i rest hp => exact .inr ⟨i, rest, hp, rowStep_of_exec h⟩
  next => exact .inl (Host.Outcome.next.inj h).symm

end Sys2Proof.Machine
end

section
/-! The steps that are no run of acts alone, taken apart into runs of acts and the one change that is none: the
completion of an application and of a close, drain entry, and the restore. -/

namespace Sys2Proof.Machine

/-! ### The completion of an application (R36, R41) -/

theorem get_replicate {α : Type} (n : Nat) (x : α) (i : Fin n) : (Vector.replicate n x)[i] = x :=
  Vector.getElem_replicate ..

theorem commitTarget_frame (amount : Nat) (s : State) (t : Target) :
    commitTarget amount s t = { s with
      store := { s.store with registers := (commitTarget amount s t).store.registers } } := by
  unfold commitTarget
  split <;> rfl

theorem foldl_commitTarget_frame (amount : Nat) (ts : List Target) (s : State) :
    ∃ regs, ts.foldl (commitTarget amount) s
      = { s with store := { s.store with registers := regs } } := by
  induction ts generalizing s with
  | nil => exact ⟨s.store.registers, rfl⟩
  | cons t ts ih =>
    obtain ⟨regs, h⟩ := ih (commitTarget amount s t)
    exact ⟨regs, by rw [List.foldl_cons, h, commitTarget_frame]⟩

/-- The state once the targets of an application are committed and its OVERFLOW notices raised. -/
def applicationTold (e : Increment) (targets : List Target) (s : State) : State :=
  (targets.filterMap (overflowOf s e.amount)).foldl (fun s n => raise n s)
    (targets.foldl (commitTarget e.amount) s)

theorem applicationTold_acts (s₀ : State) (e : Increment) (targets : List Target) (s : State) :
    Acts s₀ (targets.foldl (commitTarget e.amount) s) (applicationTold e targets s) :=
  foldl_acts (fun s n => raise_acts s₀ s n) _ _

theorem completeApplication_eq (e : Increment) (targets : List Target) (s : State) :
    completeApplication e targets s = { applicationTold e targets s with
      engine := .ready
      accumulators := (completeApplication e targets s).accumulators
      store := { (applicationTold e targets s).store with
        applicationCounter := (applicationTold e targets s).store.applicationCounter + 1 } } := rfl

theorem foldl_raise_frame (ns : List Notice) (s : State) :
    ∃ ps, ns.foldl (fun s n => raise n s) s = { s with ports := ps } := by
  induction ns generalizing s with
  | nil => exact ⟨s.ports, rfl⟩
  | cons n ns ih =>
    obtain ⟨ps, h⟩ := ih (raise n s)
    exact ⟨ps, by rw [List.foldl_cons, h, raise_frame]⟩

/-- Commits and notices change registers and ports only. -/
theorem applicationTold_frame (e : Increment) (targets : List Target) (s : State) :
    ∃ ps regs, applicationTold e targets s
      = { s with ports := ps, store := { s.store with registers := regs } } := by
  obtain ⟨regs, hr⟩ := foldl_commitTarget_frame e.amount targets s
  obtain ⟨ps, hp⟩ := foldl_raise_frame (targets.filterMap (overflowOf s e.amount))
    (targets.foldl (commitTarget e.amount) s)
  exact ⟨ps, regs, by rw [applicationTold, hp, hr]⟩

/-! ### The completion of a close (R109, R182) -/

/-- What the parts of a completion change after the record has joined the log and before the close is at its
end. -/
def CloseFrame (s t : State) : Prop :=
  t = { s with
    ports := t.ports
    store := { s.store with
      registers := t.store.registers, channels := t.store.channels
      intervalIndex := t.store.intervalIndex, periodNumber := t.store.periodNumber
      periodDuration := t.store.periodDuration, chains := t.store.chains } }

theorem CloseFrame.trans {s t u : State} (h : CloseFrame s t) (h' : CloseFrame t u) :
    CloseFrame s u := by
  unfold CloseFrame at h h'
  rw [h] at h'
  exact h'

theorem periodResetRegister_frame (s : State) (i : RegSlot) :
    CloseFrame s (periodResetRegister s i) := by
  unfold periodResetRegister
  dsimp only
  split
  next => rfl
  next =>
    generalize hr : RegisterRec.mk _ _ _ _ _ _ _ _ _ _ _ = r
    have hv : CloseFrame s (verifyRegister .periodReset s i) := by
      unfold CloseFrame; rw [verifyRegister_frame]
    exact hv.trans (u := putRegister i r (verifyRegister .periodReset s i)) rfl

/-- The period reset of one register: SUSPECT stays, and any other counted under R6 before. -/
theorem periodResetRegister_acts (s₀ : State) {s : State} (he : s.engine = .closing) (i : RegSlot) :
    Acts s₀ s (periodResetRegister s i) := by
  unfold periodResetRegister
  dsimp only
  split
  next => exact Acts.refl _ _
  next h =>
    rw [not_or] at h
    refine (verifyRegister_acts s₀ .periodReset s i).trans ?_
    refine (Act.register i _ ⟨?_, .inr (.inr ?_)⟩).acts
    · have hfree : (verifyRegister .periodReset s i).store.registers[i].state ≠ .free := by
        rw [verifyRegister_register_self]
        exact fun hf => h.1 ((verifiedRecord_free_iff s i).mp hf)
      refine pairKept_of_same (fun hc => ?_) ⟨rfl, rfl⟩
      have hsus : (verifyRegister .periodReset s i).store.registers[i].state ≠ .suspect := by
        intro hs
        rcases hc with hc | hc <;> rw [show (zeroed _).state = _ from hs, if_pos rfl] at hc <;>
          exact nomatch hc
      cases hst : (verifyRegister .periodReset s i).store.registers[i].state with
      | free => exact absurd hst hfree
      | live => exact .inl hst
      | overflowed => exact .inr hst
      | suspect => exact absurd hst hsus
    · rw [verifyRegister_engine, he]

theorem periodResetAll_spec (s₀ : State) {s : State} (he : s.engine = .closing) :
    CloseFrame s (periodResetAll s) ∧ Acts s₀ s (periodResetAll s) := by
  have h := foldl_acts_of (s₀ := s₀) (f := periodResetRegister)
    (fun u => CloseFrame s u ∧ u.engine = .closing) (fun u i hu => ?_) (List.finRange 32)
    (s := s) ⟨rfl, he⟩
  · exact ⟨h.1.1, h.2⟩
  · have hf := periodResetRegister_frame u i
    refine ⟨⟨hu.1.trans hf, ?_⟩, periodResetRegister_acts s₀ hu.2 i⟩
    rw [hf]; exact hu.2

theorem demandCloseCompletion_frame (cause : Cause) (s : State) :
    CloseFrame s (demandCloseCompletion cause s) := by
  unfold demandCloseCompletion
  dsimp only
  split <;> rfl

theorem demandCloseCompletion_acts (s₀ : State) (cause : Cause) (s : State) :
    Acts s₀ s (demandCloseCompletion cause s) := by
  have h1 : Acts s₀ s (onStore (fun st =>
      { st with
        channels := st.channels.map fun ch => { ch with maxima := zeroMaxima }
        intervalIndex := 0 }) s) := Quiet.acts rfl
  exact h1.trans (ite_acts fun h => onChain_loaded_acts fun _ => .inl h.1)

theorem startPeriod_frame (s : State) : CloseFrame s (startPeriod s) := by
  unfold startPeriod
  dsimp only
  split <;> rfl

theorem startPeriod_acts (s₀ s : State) : Acts s₀ s (startPeriod s) := by
  have h1 : Acts s₀ s (onStore (fun st =>
      { st with periodNumber := st.periodNumber + 1, periodDuration := 0 }) s) := Quiet.acts rfl
  exact (h1.trans (onChain_loaded_acts (f := .overdue) (nomatch ·))).trans
    (ite_acts fun _ => onChain_loaded_acts (nomatch ·))

theorem raise_closeFrame (n : Notice) (s : State) : CloseFrame s (raise n s) := by
  unfold CloseFrame; rw [raise_frame]

theorem closeDone_frame (c : CurrentClose) (closed : BitVec 16) (s : State) :
    CloseFrame s (closeDone c closed s) := by
  unfold closeDone
  split
  · unfold CloseFrame; rw [offer_frame]
  · rfl

theorem closeDone_acts (s₀ : State) (c : CurrentClose) (closed : BitVec 16) (s : State) :
    Acts s₀ s (closeDone c closed s) := by
  unfold closeDone
  split
  · exact offer_acts _ _ _ _
  · exact Acts.refl _ _

/-- A completion up to the moment at which the close is at its end (R109 steps 1 to 8). -/
def closeTold (c : CurrentClose) (b : Building) (s : State) : State :=
  closeDone c s.store.periodNumber (raise (closedNotice c.cause s.store.periodNumber c.requester
    b.removed) (startPeriod (demandCloseCompletion c.cause (periodResetAll
      (appendRecord b.bytes s)))))

theorem closeTold_spec (c : CurrentClose) (b : Building) {s : State} (he : s.engine = .closing) :
    CloseFrame (appendRecord b.bytes s) (closeTold c b s)
      ∧ Acts s (appendRecord b.bytes s) (closeTold c b s) := by
  obtain ⟨hf, ha⟩ := periodResetAll_spec s (s := appendRecord b.bytes s) he
  exact ⟨(((hf.trans (demandCloseCompletion_frame _ _)).trans (startPeriod_frame _)).trans
      (raise_closeFrame _ _)).trans (closeDone_frame _ _ _),
    (((ha.trans (demandCloseCompletion_acts s _ _)).trans (startPeriod_acts s _)).trans
      (raise_acts s _ _)).trans (closeDone_acts s _ _ _)⟩

/-- The state with a close at its end: IDLE, and for the SETUP close SETUP with the engine HALTED and no REOPEN,
else the engine READY (R109, R182). -/
def closeEnded (cause : Cause) (s : State) : State :=
  { s with
    closeState := .idle, currentClose := none, doneOwed := false, building := none
    engine := if cause = .setup then .halted else .ready
    reopen := if cause = .setup then none else s.reopen
    store := { s.store with mode := if cause = .setup then .setup else s.store.mode } }

/-- The entry to SETUP: the chains held, the claim and DONE given where they are owed (R140, R182). -/
theorem enterSetup_acts (s₀ : State) (closed : BitVec 16) (s : State) :
    Acts s₀ { s with engine := .halted, reopen := none, store := { s.store with mode := .setup } }
      (enterSetup closed s) := by
  generalize hu : ({ s with engine := .halted, reopen := none
                            store := { s.store with mode := .setup } } : State) = u
  have hm : u.store.mode = .setup := by rw [← hu]
  have hh : Acts s₀ u (onChain .demand held (onChain .inhibit held (onChain .overdue held u))) :=
    ((onChain_held_acts _ _ _).trans (onChain_held_acts _ _ _)).trans (onChain_held_acts _ _ _)
  generalize hv : onChain .demand held (onChain .inhibit held (onChain .overdue held u)) = v at hh
  have hvm : v.store.mode = .setup := by rw [← hv]; exact hm
  have hvs : v.supply = s.supply := by rw [← hv, ← hu]; rfl
  have hclaim : ∀ p n, s.supply = .runSupply → Acts s₀ v (offer p n { v with claim := some p }) :=
    fun p n hs => (Act.claim (some p) fun _ => .inr ⟨hvm, .inl (hvs.trans hs)⟩).acts.trans
      (offer_acts _ _ _ _)
  refine hh.trans ?_
  subst hv hu
  unfold enterSetup
  dsimp only
  split
  next =>
    split
    next hs => exact hclaim _ _ hs
    next => exact Acts.refl _ _
  next => exact Acts.refl _ _

theorem completeClose_acts (c : CurrentClose) (b : Building) (s : State) :
    Acts s (closeEnded c.cause (closeTold c b s)) (completeClose c b s) := by
  have heq : completeClose c b s = if c.cause = .setup then
      enterSetup s.store.periodNumber { closeTold c b s with
        closeState := .idle, currentClose := none, doneOwed := false, building := none }
    else examineLatch { closeTold c b s with
        closeState := .idle, currentClose := none, doneOwed := false, building := none
        engine := .ready } := rfl
  rw [heq, closeEnded]
  by_cases hc : c.cause = .setup
  · simp only [if_pos hc]
    exact enterSetup_acts s s.store.periodNumber { closeTold c b s with
        closeState := .idle, currentClose := none, doneOwed := false, building := none }
  · simp only [if_neg hc]
    exact examineLatch_acts s _

/-! ### Drain entry (R188) -/

/-- The state of drain entry once the slots are freed and before the commands are answered. -/
def drained (s : State) : State :=
  onChain .demand held
    { stopConverter (resolveReopen { s with supply := .drain, claim := none }) with
      latch := false, ports := s.ports.map emptyNotices }

theorem resolveReopen_ports (s : State) : (resolveReopen s).ports = s.ports := by
  unfold resolveReopen; split <;> rfl

theorem enterDrain_eq (s : State) :
    enterDrain s = [0, 1, 2].foldl failWaiting (drained (freeAllSlots s)) := by
  have h : freeAllSlots { s with supply := .drain, claim := none }
      = { freeAllSlots s with supply := .drain, claim := none } := rfl
  unfold enterDrain drained
  rw [h]
  simp only [stopConverter, resolveReopen_ports]

theorem drained_supply (s : State) : (drained s).supply = .drain := by
  unfold drained resolveReopen
  split <;> rfl

theorem enterDrain_acts (s : State) :
    Acts (drained (freeAllSlots s)) (drained (freeAllSlots s)) (enterDrain s) := by
  rw [enterDrain_eq]
  exact foldl_acts (failWaiting_acts
    (.inr (.inr (.inr (.inr (drained_supply (freeAllSlots s))))))) _ _

/-! ### Restore (R190 to R192) -/

/-- The state of a restore with its blocks restored, at the moment the part is in RUN-SUPPLY again. -/
def woken (s : State) : State :=
  { onChain .demand heldAtReload s with
    engine := if s.store.mode = .run then .ready else .halted
    supply := .runSupply }

theorem length_verifiedLog_le (l : PeriodLog) :
    (verifiedLog l).entries.length ≤ l.entries.length
      ∧ bytesUsed (verifiedLog l).entries ≤ bytesUsed l.entries := by
  unfold verifiedLog
  split
  next =>
    refine ⟨Nat.le_of_eq (List.length_map ..), Nat.le_of_eq ?_⟩
    simp only [logOf, bytesUsed, List.map_map]
    rfl
  next => exact ⟨Nat.zero_le _, Nat.zero_le _⟩

theorem restoreBlocks_acts (s₀ s : State) : Acts s₀ s (restoreBlocks s) := by
  have h1 := foldl_acts (verifyRegister_acts s₀ .restore) (List.finRange 32) s
  unfold restoreBlocks
  dsimp only
  generalize (List.finRange 32).foldl (verifyRegister .restore) s = u at h1 ⊢
  have h2 : Acts s₀ u (onStore (fun st => { st with log := verifiedLog st.log }) u) :=
    (Act.log (verifiedLog u.store.log) (length_verifiedLog_le _)).acts
  have h3 : ∀ v : State, Acts s₀ v { restartInputs v with
      converterPointer := 7, arbiterPointer := .converter, lineHistory := none
      recognizer := unknownRecognizer, latch := false } := fun v => Quiet.acts rfl
  exact (h1.trans h2).trans (h3 _)

/-- What the blocks of a restore change. -/
theorem restoreBlocks_frame (s : State) : ∃ ps regs, restoreBlocks s = { s with
    ports := ps, inputs := (restartInputs s).inputs
    store := { s.store with registers := regs, log := verifiedLog s.store.log }
    converterPointer := 7, arbiterPointer := .converter, lineHistory := none
    recognizer := unknownRecognizer, latch := false } := by
  obtain ⟨ps, regs, h⟩ := foldl_verifyRegister_frame .restore (List.finRange 32) s
  refine ⟨ps, regs, ?_⟩
  unfold restoreBlocks
  rw [h]
  rfl

theorem restoreOverdue_mode (s : State) : (restoreOverdue s).store.mode = s.store.mode := by
  unfold restoreOverdue; split <;> rfl

theorem restoreDemand_mode (s : State) : (restoreDemand s).store.mode = s.store.mode := by
  unfold restoreDemand; dsimp only; split <;> rfl

theorem restoreOverdue_update (s : State) (e : Engine) (x : SupplyState) :
    { restoreOverdue s with engine := e, supply := x }
      = restoreOverdue { s with engine := e, supply := x } := by
  unfold restoreOverdue inhibitActive
  dsimp only
  split <;> rfl

theorem restoreDemand_update (s : State) :
    { restoreDemand s with
      engine := if s.store.mode = .run then .ready else .halted, supply := .runSupply }
      = if s.store.mode = .run then partialEnd (woken s) else clearInterval (woken s) := by
  unfold restoreDemand
  dsimp only
  by_cases hm : s.store.mode = .run
  · rw [if_pos (c := (onChain .demand heldAtReload s).store.mode = .run) hm]
    simp only [if_pos hm, woken]
    rfl
  · rw [if_neg (c := (onChain .demand heldAtReload s).store.mode = .run) hm]
    simp only [if_neg hm, woken]
    rfl

/-- The rest of a restore, seen from the part in RUN-SUPPLY: the demand interval, then a held OVERDUE. -/
theorem restoreSteps_eq (s : State) : restoreSteps s = restoreOverdue
    (if (restoreBlocks s).store.mode = .run then partialEnd (woken (restoreBlocks s))
      else clearInterval (woken (restoreBlocks s))) := by
  rw [← restoreDemand_update, ← restoreOverdue_update]
  unfold restoreSteps
  dsimp only
  rw [restoreOverdue_mode, restoreDemand_mode]

/-- What a restore does after its blocks, from an asleep part with no close in flight. -/
theorem restoreSteps_acts (s₀ : State) {s : State} (hidle : AsleepLaw s₀ → s.closeState = .idle) :
    Acts s₀ (woken (restoreBlocks s)) (restoreSteps s) := by
  obtain ⟨ps, regs, hf⟩ := restoreBlocks_frame s
  have hidle' : AsleepLaw s₀ → (restoreBlocks s).closeState = .idle := by rw [hf]; exact hidle
  rw [restoreSteps_eq]
  generalize restoreBlocks s = b at hidle' ⊢
  have hs : (woken b).supply = .runSupply := rfl
  have h1 : Acts s₀ (woken b)
      (if b.store.mode = .run then partialEnd (woken b) else clearInterval (woken b)) := by
    split
    next => exact partialEnd_acts (.inl hs)
    next => exact clearInterval_acts _ _
  refine h1.trans ?_
  have h2 : (if b.store.mode = .run then partialEnd (woken b) else clearInterval (woken b)).closeState
        = b.closeState
      ∧ (if b.store.mode = .run then partialEnd (woken b) else clearInterval (woken b)).supply
        = .runSupply := by
    split <;> exact ⟨rfl, rfl⟩
  unfold restoreOverdue
  exact ite_acts fun h => takeClose_run_acts none (by decide) (fun ha => h2.1.trans (hidle' ha)) h.1
    h2.2

theorem portsComeUp_acts (s₀ : State) {s : State} (owed : List RegSlot)
    (hs : s.supply = .runSupply) : Acts s₀ s (portsComeUp owed s) := by
  have h1 : Acts s₀ s { s with ports := Vector.replicate 3 idlePort } :=
    (Act.ports _ fun p => by
      rw [get_replicate]; exact ⟨fun _ => ⟨Nat.zero_le _, rfl⟩, fun h => absurd rfl h⟩).acts
  have h2 := h1.trans (Act.up (s₀ := s₀) (s := { s with ports := Vector.replicate 3 idlePort })
    hs).acts
  have h3 : ∀ u : State, Acts s₀ u (onStore (fun st => { st with coldMarker := false }) u) :=
    fun u => Quiet.acts rfl
  exact ((h2.trans (raise_acts s₀ _ _)).trans (h3 _)).trans
    (foldl_acts (fun s i => raise_acts s₀ s _) owed _)

theorem restoreSteps_supply (s : State) : (restoreSteps s).supply = .runSupply := by
  unfold restoreSteps; rfl

/-- The end of a restore: the ports come up, or the drain that PFAIL asked for is entered. -/
theorem restoreStored_cases (pfail : Bool) (s : State) :
    (pfail = true ∧ restoreStored pfail s
        = enterDrain { restoreSteps s with pfailAsserted := true })
      ∨ ∀ s₀, Acts s₀ (restoreSteps s) (restoreStored pfail s) := by
  cases pfail with
  | true => exact .inl ⟨rfl, rfl⟩
  | false =>
    refine .inr fun s₀ => ?_
    have hs := restoreSteps_supply s
    unfold restoreStored
    generalize restoreSteps s = u at hs ⊢
    have h1 : Acts s₀ u { u with pfailAsserted := false } := Quiet.acts rfl
    exact h1.trans (portsComeUp_acts s₀ _ hs)

end Sys2Proof.Machine
end

section
/-! The laws of one part of the state each: the notice queues, the increment queue, the snapshot slots, the
pulse inputs, the chain table, and the application counter. -/

namespace Sys2Proof.Machine

/-! ### The parts -/

/-- The ports, the increment queue, the slots, the pulse inputs and the chains stand as they were. -/
structure SameParts (s t : State) : Prop where
  ports : t.ports = s.ports
  queue : t.queue = s.queue
  slots : t.slots = s.slots
  pulseDefs : t.store.pulseDefs = s.store.pulseDefs
  pulseCounts : t.store.pulseCounts = s.store.pulseCounts
  chains : t.store.chains = s.store.chains

theorem Quiet.sameParts {s t : State} (h : Quiet s t) : SameParts s t := by
  unfold Quiet at h
  constructor <;> rw [h]

theorem chainMove_held (s₀ s : State) (f : ChainFn) :
    ChainMove s₀ s f (held (chainOf s.store.chains f)) :=
  chainMove_of_segments chainFits_held (assigned_held _) (segments_held _).1 (segments_held _).2.1
    fun _ h => absurd h held_running

/-- An act changes one of the parts, or none. -/
theorem Act.parts {s₀ s t : State} (h : Act s₀ s t) :
    SameParts s t
    ∨ (∃ v, t = { s with ports := v } ∧ ∀ p : PortId, PortMove s₀ s.ports[p] v[p])
    ∨ (∃ l, t = { s with queue := l } ∧ (QueueFits s.queue → QueueFits l))
    ∨ (∃ (i : SnapId) (x : SnapSlot), t = { s with slots := s.slots.set i x } ∧ SlotMove s i x)
    ∨ (∃ (n : InputId) (d : PulseDef) (c : PulseCount), t = onStore (fun st => { st with
          pulseDefs := st.pulseDefs.set n d, pulseCounts := st.pulseCounts.set n c }) s
        ∧ (PulseFits s.store.pulseDefs[n] s.store.pulseCounts[n] → PulseFits d c))
    ∨ (∃ f c, SameParts (onChain f (fun _ => c) s) t ∧ ChainMove s₀ s f c) := by
  cases h with
  | quiet h => exact .inl h.sameParts
  | ports v h => exact .inr (.inl ⟨v, rfl, h⟩)
  | queue l h => exact .inr (.inr (.inl ⟨l, rfl, h⟩))
  | slot i x h => exact .inr (.inr (.inr (.inl ⟨i, x, rfl, h⟩)))
  | input n d c h => exact .inr (.inr (.inr (.inr (.inl ⟨n, d, c, rfl, h⟩))))
  | chain f c h =>
    exact .inr (.inr (.inr (.inr (.inr ⟨f, c, ⟨rfl, rfl, rfl, rfl, rfl, rfl⟩, h⟩))))
  | close cause requester =>
    exact .inr (.inr (.inr (.inr (.inr ⟨.demand, held s.store.chains.demand,
      ⟨rfl, rfl, rfl, rfl, rfl, rfl⟩, chainMove_held _ _ _⟩))))
  | register | log | captures | engine | claim | reopen | write | run | enter | up | phase =>
    exact .inl ⟨rfl, rfl, rfl, rfl, rfl, rfl⟩

/-- The part without its volatile state but for the DEMAND chain, which an act changes. -/
def dark (s : State) : State :=
  { s with
    ports := Vector.replicate 3 idlePort
    queue := []
    slots := Vector.replicate 4 .free }

/-- A law of the parts that every act keeps, that a loss of the volatile state and a cold start keep, and that
the emptied notice queues of drain entry keep. -/
structure PartsLaw (law : State → Prop) : Prop where
  same : ∀ {s t}, law s → SameParts s t → law t
  act : ∀ {s₀ s t}, Act s₀ s t → law s → law t
  emptied : ∀ {s}, law s → law { s with ports := s.ports.map emptyNotices }
  dark : ∀ {s}, law s → law (dark s)
  cold : ∀ {s}, law s → law (coldStart s)

theorem onChain_heldAtReload_acts (s₀ s : State) : Acts s₀ s (onChain .demand heldAtReload s) :=
  onChain_acts (chainMove_of_segments chainFits_heldAtReload (assigned_heldAtReload _)
    (segments_heldAtReload _).1 (segments_heldAtReload _).2 fun _ h => absurd h heldAtReload_running)

namespace PartsLaw

variable {law : State → Prop}

theorem acts (hl : PartsLaw law) {s₀ s t : State} (h : Acts s₀ s t) (hs : law s) : law t :=
  h.keeps (fun _ _ ha hu => hl.act ha hu) hs

theorem heldAtReload (hl : PartsLaw law) {s : State} (h : law s) :
    law (onChain .demand heldAtReload s) :=
  hl.acts (onChain_heldAtReload_acts s s) h

theorem loseVolatile (hl : PartsLaw law) {s : State} (h : law s) : law (loseVolatile s) :=
  hl.same (hl.dark (hl.heldAtReload h)) ⟨rfl, rfl, rfl, rfl, rfl, rfl⟩

theorem takeClose (hl : PartsLaw law) {cause : Cause} {requester : Option PortId} {s : State}
    (h : law s) : law (takeClose cause requester s) :=
  hl.same (hl.acts (onChain_held_acts s s .demand) h) ⟨rfl, rfl, rfl, rfl, rfl, rfl⟩

theorem verifyStore (hl : PartsLaw law) {s : State} (h : law s) : law (verifyStore s) := by
  unfold Machine.verifyStore
  split
  next => exact h
  next => exact hl.cold h

theorem completeApplication (hl : PartsLaw law) {e : Increment} {targets : List Target} {s : State}
    (h : law s) : law (completeApplication e targets s) := by
  obtain ⟨regs, hr⟩ := foldl_commitTarget_frame e.amount targets s
  have hc : law (targets.foldl (commitTarget e.amount) s) :=
    hl.same h (by rw [hr]; exact ⟨rfl, rfl, rfl, rfl, rfl, rfl⟩)
  have ht : law (applicationTold e targets s) := hl.acts (applicationTold_acts s e targets s) hc
  rw [completeApplication_eq]
  exact hl.same ht ⟨rfl, rfl, rfl, rfl, rfl, rfl⟩

theorem completeClose (hl : PartsLaw law) {c : CurrentClose} {b : Building} {s : State}
    (he : s.engine = .closing) (h : law s) : law (completeClose c b s) := by
  have ha : law (appendRecord b.bytes s) := hl.same h ⟨rfl, rfl, rfl, rfl, rfl, rfl⟩
  have ht : law (closeTold c b s) := hl.acts (closeTold_spec c b he).2 ha
  exact hl.acts (completeClose_acts c b s)
    (hl.same ht ⟨rfl, rfl, rfl, rfl, rfl, rfl⟩)

theorem enterDrain (hl : PartsLaw law) {s : State} (h : law s) : law (enterDrain s) := by
  refine hl.acts (enterDrain_acts s) ?_
  have hf : law (freeAllSlots s) := hl.acts (freeAllSlots_acts s s) h
  generalize freeAllSlots s = u at hf
  have hh : law (onChain .demand held { u with ports := u.ports.map emptyNotices }) :=
    hl.acts (onChain_held_acts u _ _) (hl.emptied hf)
  refine hl.same hh ?_
  unfold drained resolveReopen
  split <;> exact ⟨rfl, rfl, rfl, rfl, rfl, rfl⟩

theorem restoreStored (hl : PartsLaw law) (pfail : Bool) {s : State} (h : law s) :
    law (restoreStored pfail s) := by
  have hb : law (restoreBlocks s) := hl.acts (restoreBlocks_acts s s) h
  have hr : law (restoreSteps s) := by
    rw [restoreSteps_eq]
    generalize restoreBlocks s = b at hb
    have hw : law (woken b) :=
      hl.same (hl.heldAtReload hb) ⟨rfl, rfl, rfl, rfl, rfl, rfl⟩
    have hd : law (if b.store.mode = .run then partialEnd (woken b) else clearInterval (woken b)) := by
      split
      next => exact hl.acts (partialEnd_acts (s₀ := woken b) (.inl rfl)) hw
      next => exact hl.acts (clearInterval_acts b _) hw
    generalize (if b.store.mode = .run then partialEnd (woken b) else clearInterval (woken b)) = d
      at hd
    unfold restoreOverdue
    split
    next => exact hl.takeClose hd
    next => exact hd
  rcases restoreStored_cases pfail s with ⟨_, heq⟩ | hacts
  · rw [heq]
    generalize restoreSteps s = u at hr
    exact hl.enterDrain (hl.same hr ⟨rfl, rfl, rfl, rfl, rfl, rfl⟩)
  · exact hl.acts (hacts s) hr

theorem restored (hl : PartsLaw law) (pfail : Bool) {s : State} (h : law s) :
    law (restored pfail s) := by
  unfold Machine.restored
  split
  next => exact hl.restoreStored pfail h
  next =>
    split
    next => exact hl.same (hl.cold h) ⟨rfl, rfl, rfl, rfl, rfl, rfl⟩
    next => exact hl.restoreStored false (hl.cold h)

theorem poweredUp (hl : PartsLaw law) {deasserted : Bool} {s t : State} (h : law s)
    (hu : s.supply = .unpowered) (ht : exec (.powerUp deasserted) s = .next t) : law t := by
  cases ht
  rw [if_pos hu]
  have hs : law { s with prescaler := ⟨0, 0, []⟩, retainDuration := 0 } :=
    hl.same h ⟨rfl, rfl, rfl, rfl, rfl, rfl⟩
  have hv := hl.verifyStore hs
  have hi : law (restartInputs (Machine.verifyStore
      { s with prescaler := ⟨0, 0, []⟩, retainDuration := 0 })) :=
    hl.same hv ⟨rfl, rfl, rfl, rfl, rfl, rfl⟩
  exact hl.same (hl.heldAtReload hi) ⟨rfl, rfl, rfl, rfl, rfl, rfl⟩

theorem rowStep (hl : PartsLaw law) {s t : State} {i : Instr} (h : RowStep s i t) (hs : law s)
    (hlost : i ≠ .lossOfBothSupplies ∨ ∀ (u : State) (st : Store), law u → law { u with store := st }) :
    law t := by
  cases h with
  | acts h => exact hl.acts h hs
  | applied h => exact hl.completeApplication hs
  | closed he hc hb => exact hl.completeClose he hs
  | drained h => exact hl.enterDrain (hl.same hs ⟨rfl, rfl, rfl, rfl, rfl, rfl⟩)
  | retained h => exact hl.same (hl.loseVolatile hs) ⟨rfl, rfl, rfl, rfl, rfl, rfl⟩
  | restored pfail h => exact hl.restored pfail hs
  | poweredUp h ht => exact hl.poweredUp hs h ht
  | lost h ht =>
    cases ht
    rw [if_neg h]
    rcases hlost with hne | hstore
    · exact absurd rfl hne
    · exact hl.same
        (hstore _ (lostStore s.freeIndex) (hl.loseVolatile hs)) ⟨rfl, rfl, rfl, rfl, rfl, rfl⟩

theorem step (hl : PartsLaw law) {s t : State} (hs : law s) (h : step s = .next t)
    (hlost : losesStore s = false ∨ ∀ (u : State) (st : Store), law u → law { u with store := st }) :
    law t := by
  rcases rowStep_of_step h with rfl | ⟨i, rest, hp, hr⟩
  · exact hs
  · refine hl.rowStep hr (hl.same hs ⟨rfl, rfl, rfl, rfl, rfl, rfl⟩) (hlost.imp_left fun hf => ?_)
    rintro rfl
    simp [losesStore, hp] at hf

theorem kept (hl : PartsLaw law) (hstore : ∀ (u : State) (st : Store), law u → law { u with store := st }) :
    Kept law := fun _ _ hs h => hl.step hs h (.inr hstore)

theorem keptWithStore (hl : PartsLaw law) : KeptWithStore law :=
  fun _ _ hf hs h => hl.step hs h (.inl hf)

end PartsLaw

/-! ### Notice queues (R153) -/

theorem noticeLaw_of_ports {s t : State} (h : t.ports = s.ports) (hs : NoticeLaw s) : NoticeLaw t := by
  unfold NoticeLaw; rw [h]; exact hs

theorem partsLaw_noticeLaw : PartsLaw NoticeLaw where
  same hs h := noticeLaw_of_ports h.ports hs
  act h hs := by
    rcases h.parts with hp | ⟨v, rfl, hv⟩ | ⟨l, rfl, _⟩ | ⟨i, x, rfl, _⟩ | ⟨n, d, c, rfl, _⟩
      | ⟨f, c, hp, _⟩
    case inl | inr.inr.inr.inr.inr => exact noticeLaw_of_ports hp.ports hs
    case inr.inl => exact fun p => (hv p).1 (hs p)
    all_goals exact hs
  emptied _ p := by
    rw [get_map]; exact ⟨Nat.zero_le _, rfl⟩
  dark _ p := by
    simp only [dark, get_replicate]; exact ⟨Nat.zero_le _, rfl⟩
  cold hs := hs

/-- Settles O52: every step keeps the law of the notice queues. -/
theorem noticeLawKept : Obligations.NoticeLawKept := partsLaw_noticeLaw.kept fun _ _ h => h

/-! ### The increment queue (R22) -/

theorem queueLaw_of_queue {s t : State} (h : t.queue = s.queue) (hs : QueueLaw s) : QueueLaw t := by
  unfold QueueLaw; rw [h]; exact hs

theorem partsLaw_queueLaw : PartsLaw QueueLaw where
  same hs h := queueLaw_of_queue h.queue hs
  act h hs := by
    rcases h.parts with hp | ⟨v, rfl, _⟩ | ⟨l, rfl, hl⟩ | ⟨i, x, rfl, _⟩ | ⟨n, d, c, rfl, _⟩
      | ⟨f, c, hp, _⟩
    case inl | inr.inr.inr.inr.inr => exact queueLaw_of_queue hp.queue hs
    case inr.inr.inl => exact hl hs
    all_goals exact hs
  emptied hs := hs
  dark _ := ⟨Nat.zero_le _, Nat.zero_le _⟩
  cold hs := hs

/-- Settles O53: every step keeps the law of the increment queue. -/
theorem queueLawKept : Obligations.QueueLawKept := partsLaw_queueLaw.kept fun _ _ h => h

/-! ### Snapshot slots (R118) -/

/-- The number of slots that a port holds, once one slot is changed. -/
theorem slotCount_set (s : State) (i : SnapId) (x : SnapSlot) (p : PortId) :
    slotCount { s with slots := s.slots.set i x } p
      = slotCount s p - (if slotHolder s.slots[i] = some p then 1 else 0)
        + (if slotHolder x = some p then 1 else 0) := by
  unfold slotCount
  rw [Vector.toList_set, List.countP_set (by simp)]
  simp

/-- The slot itself is one of those its holder holds. -/
theorem slotCount_pos {s : State} {i : SnapId} {p : PortId} (h : slotHolder s.slots[i] = some p) :
    0 < slotCount s p := by
  unfold slotCount
  rw [List.countP_pos_iff]
  exact ⟨s.slots[i], by simp, by simpa using h⟩

theorem slotLaw_set {s : State} {i : SnapId} {x : SnapSlot} (h : SlotMove s i x) (hs : SlotLaw s) :
    SlotLaw { s with slots := s.slots.set i x } := by
  intro p
  have hp := hs p
  rw [slotCount_set]
  rcases h with h | h | ⟨q, hx, hq⟩
  · rw [h, if_neg (c := none = some p) (nomatch ·)]; omega
  · rw [h]
    split
    next hi => have := slotCount_pos hi; omega
    next => omega
  · rw [hx]
    by_cases hqp : q = p
    · subst hqp; rw [if_pos rfl]; omega
    · rw [if_neg (c := some q = some p) (by simpa using hqp)]; omega

theorem slotLaw_of_slots {s t : State} (h : t.slots = s.slots) (hs : SlotLaw s) : SlotLaw t := by
  unfold SlotLaw slotCount; rw [h]; exact hs

theorem partsLaw_slotLaw : PartsLaw SlotLaw where
  same hs h := slotLaw_of_slots h.slots hs
  act h hs := by
    rcases h.parts with hp | ⟨v, rfl, _⟩ | ⟨l, rfl, _⟩ | ⟨i, x, rfl, hx⟩ | ⟨n, d, c, rfl, _⟩
      | ⟨f, c, hp, _⟩
    case inl | inr.inr.inr.inr.inr => exact slotLaw_of_slots hp.slots hs
    case inr.inr.inr.inl => exact slotLaw_set hx hs
    all_goals exact hs
  emptied hs := hs
  dark _ p := by
    simp [slotCount, dark, slotHolder]
  cold hs := hs

/-- Settles O54: no step gives a port a third slot. -/
theorem slotLawKept : Obligations.SlotLawKept := partsLaw_slotLaw.kept fun _ _ h => h

/-! ### Pulse inputs (R47) -/

theorem pulseLaw_of_eq {s t : State} (hd : t.store.pulseDefs = s.store.pulseDefs)
    (hc : t.store.pulseCounts = s.store.pulseCounts) (hs : PulseLaw s) : PulseLaw t := by
  unfold PulseLaw; rw [hd, hc]; exact hs

theorem factoryStore_pulse (n : InputId) :
    PulseFits factoryStore.pulseDefs[n] factoryStore.pulseCounts[n] := by
  have hd : factoryStore.pulseDefs[n] = factoryPulseDef := get_replicate 8 _ n
  have hc : factoryStore.pulseCounts[n] = _ := get_replicate 8 _ n
  rw [hd, hc]
  exact ⟨by decide, by decide, fun _ => ⟨rfl, rfl⟩⟩

theorem partsLaw_pulseLaw : PartsLaw PulseLaw where
  same hs h := pulseLaw_of_eq h.pulseDefs h.pulseCounts hs
  act h hs := by
    rcases h.parts with hp | ⟨v, rfl, _⟩ | ⟨l, rfl, _⟩ | ⟨i, x, rfl, _⟩ | ⟨n, d, c, rfl, hn⟩
      | ⟨f, c, hp, _⟩
    case inl | inr.inr.inr.inr.inr => exact pulseLaw_of_eq hp.pulseDefs hp.pulseCounts hs
    case inr.inr.inr.inr.inl =>
      intro m
      rw [onStore_store, get_set, get_set]
      split
      next => exact hn (hs n)
      next => exact hs m
    all_goals exact hs
  emptied hs := hs
  dark hs := hs
  cold _ n := factoryStore_pulse n

/-- Settles O57: every step but the loss of both supplies keeps the law of the pulse inputs. -/
theorem pulseLawKept : Obligations.PulseLawKept := partsLaw_pulseLaw.keptWithStore

/-! ### The chain table (R135) -/

/-- R135 read by function: every entry fits, and two entries share no segment. -/
theorem chainLaw_iff (s : State) : ChainLaw s ↔
    (∀ f, ChainFits (chainOf s.store.chains f))
      ∧ ∀ f g, f ≠ g → Apart (chainOf s.store.chains f) (chainOf s.store.chains g) := by
  have hsymm : ∀ {c d : Chain}, Apart c d → Apart d c := fun h ha hb => (h hb ha).symm
  constructor
  · rintro ⟨⟨hd, ho, hi⟩, hdo, hdi, hoi⟩
    refine ⟨fun f => by cases f <;> assumption, fun f g hfg => ?_⟩
    cases f with
    | demand =>
      cases g with
      | demand => exact absurd rfl hfg
      | overdue => exact hdo
      | inhibit => exact hdi
    | overdue =>
      cases g with
      | demand => exact hsymm hdo
      | overdue => exact absurd rfl hfg
      | inhibit => exact hoi
    | inhibit =>
      cases g with
      | demand => exact hsymm hdi
      | overdue => exact hsymm hoi
      | inhibit => exact absurd rfl hfg
  · rintro ⟨hfits, hapart⟩
    exact ⟨⟨hfits .demand, hfits .overdue, hfits .inhibit⟩, hapart .demand .overdue (by decide),
      hapart .demand .inhibit (by decide), hapart .overdue .inhibit (by decide)⟩

theorem chainLaw_onChain {s₀ s : State} {f : ChainFn} {c : Chain} (h : ChainMove s₀ s f c)
    (hs : ChainLaw s) : ChainLaw (onChain f (fun _ => c) s) := by
  rw [chainLaw_iff] at hs ⊢
  obtain ⟨hfits, hapart⟩ := hs
  have hsymm : ∀ {c d : Chain}, Apart c d → Apart d c := fun h ha hb => (h hb ha).symm
  have hc : ∀ g, g ≠ f → Apart c (chainOf s.store.chains g) := by
    intro g hg ha
    rcases h.apart ha with ⟨hold, hfirst, hlen⟩ | hnew
    · rw [hfirst, hlen]; exact hapart f g (Ne.symm hg) hold
    · exact hnew g hg ha
  have hget : ∀ g, chainOf (onChain f (fun _ => c) s).store.chains g
      = if f = g then c else chainOf s.store.chains g := fun g => chainOf_withChain _ _ g _
  refine ⟨fun g => ?_, fun g g' hg => ?_⟩
  · rw [hget]
    split
    next => exact h.fits (hfits f)
    next => exact hfits g
  · rw [hget, hget]
    split
    next hf =>
      subst hf
      rw [if_neg hg]
      exact hc g' (Ne.symm hg)
    next hf =>
      split
      next => exact hsymm (hc g (Ne.symm hf))
      next => exact hapart g g' hg

theorem chainLaw_of_eq {s t : State} (h : t.store.chains = s.store.chains) (hs : ChainLaw s) :
    ChainLaw t := by
  unfold ChainLaw; rw [h]; exact hs

theorem chainLaw_coldStart (s : State) : ChainLaw (coldStart s) := by
  have h : (coldStart s).store.chains = ⟨unassignedChain, unassignedChain, unassignedChain⟩ := rfl
  unfold ChainLaw
  rw [h]
  decide

theorem partsLaw_chainLaw : PartsLaw ChainLaw where
  same hs h := chainLaw_of_eq h.chains hs
  act h hs := by
    rcases h.parts with hp | ⟨v, rfl, _⟩ | ⟨l, rfl, _⟩ | ⟨i, x, rfl, _⟩ | ⟨n, d, c, rfl, _⟩
      | ⟨f, c, hp, hc⟩
    case inl => exact chainLaw_of_eq hp.chains hs
    case inr.inr.inr.inr.inr => exact chainLaw_of_eq hp.chains (chainLaw_onChain hc hs)
    all_goals exact hs
  emptied hs := hs
  dark hs := hs
  cold _ := chainLaw_coldStart _

/-- Settles O58: every step but the loss of both supplies keeps the chains apart and within G0 to G3. -/
theorem chainLawKept : Obligations.ChainLawKept := partsLaw_chainLaw.keptWithStore

end Sys2Proof.Machine
end

section
/-! The application counter and the period log: what every step leaves of them. -/

namespace Sys2Proof.Machine

/-! ### The application counter (R41) -/

theorem Act.counter {s₀ s t : State} (h : Act s₀ s t) :
    t.store.applicationCounter = s.store.applicationCounter := by
  cases h with
  | quiet h => unfold Quiet at h; rw [h]
  | chain f => cases f <;> rfl
  | ports | register | log | input | slot | captures | queue | engine | claim | reopen | close | write
  | run | enter | up | phase => rfl

theorem Acts.counter {s₀ s t : State} (h : Acts s₀ s t) :
    t.store.applicationCounter = s.store.applicationCounter :=
  h.keeps (law := fun u => u.store.applicationCounter = s.store.applicationCounter)
    (fun _ _ ha hu => ha.counter.trans hu) rfl

theorem completeApplication_counter (e : Increment) (targets : List Target) (s : State) :
    (completeApplication e targets s).store.applicationCounter = s.store.applicationCounter + 1 := by
  obtain ⟨ps, regs, h⟩ := applicationTold_frame e targets s
  rw [completeApplication_eq]
  show (applicationTold e targets s).store.applicationCounter + 1 = _
  rw [h]

theorem completeClose_counter (c : CurrentClose) (b : Building) {s : State} (he : s.engine = .closing) :
    (completeClose c b s).store.applicationCounter = s.store.applicationCounter :=
  (completeClose_acts c b s).counter.trans (closeTold_spec c b he).2.counter

theorem drained_counter (s : State) :
    (drained s).store.applicationCounter = s.store.applicationCounter := by
  unfold drained resolveReopen; split <;> rfl

theorem enterDrain_counter (s : State) :
    (enterDrain s).store.applicationCounter = s.store.applicationCounter :=
  ((enterDrain_acts s).counter.trans (drained_counter _)).trans (freeAllSlots_acts s s).counter

theorem restoreOverdue_counter (s : State) :
    (restoreOverdue s).store.applicationCounter = s.store.applicationCounter := by
  unfold restoreOverdue; split <;> rfl

theorem restoreSteps_counter (s : State) :
    (restoreSteps s).store.applicationCounter = s.store.applicationCounter := by
  rw [restoreSteps_eq, restoreOverdue_counter]
  have hb := (restoreBlocks_acts s s).counter
  generalize restoreBlocks s = b at hb
  split <;> exact hb

theorem restoreStored_counter (pfail : Bool) (s : State) :
    (restoreStored pfail s).store.applicationCounter = s.store.applicationCounter := by
  refine Eq.trans ?_ (restoreSteps_counter s)
  rcases restoreStored_cases pfail s with ⟨_, heq⟩ | hacts
  · rw [heq, enterDrain_counter]
  · exact (hacts s).counter

theorem restored_counter (pfail : Bool) (s : State) :
    (restored pfail s).store.applicationCounter
      = if signatureOk s.store then s.store.applicationCounter else 0 := by
  unfold restored
  split
  next => exact restoreStored_counter pfail s
  next =>
    split
    next => rfl
    next => exact restoreStored_counter false (coldStart s)

theorem verifyStore_counter (s : State) :
    (verifyStore s).store.applicationCounter
      = if signatureOk s.store then s.store.applicationCounter else 0 := by
  unfold verifyStore; split <;> rfl

/-- Settles O60, row by row: a run of acts leaves the counter, a completed application raises it, and a start on
a store that fails its signature sets it to zero. -/
theorem counterRisesWithApplications : Obligations.CounterRisesWithApplications := by
  intro s t hf h
  have hcold : ∀ {n : BitVec 32},
      n = (if signatureOk s.store then s.store.applicationCounter else 0) →
      n = s.store.applicationCounter ∨ signatureOk s.store = false ∧ n = 0 := by
    intro n hn
    cases hs : signatureOk s.store with
    | true => exact .inl (by rw [hn, hs]; rfl)
    | false => exact .inr ⟨rfl, by rw [hn, hs]; rfl⟩
  rcases rowStep_of_step h with rfl | ⟨i, rest, hp, hr⟩
  · exact .inl rfl
  have hhead : s.pending.head? = some i := by rw [hp]; rfl
  cases hr with
  | acts ha => exact .inl ha.counter
  | applied he =>
    exact .inr (.inl ⟨hhead, ⟨_, _, he⟩,
      completeApplication_counter _ _ { s with pending := rest }⟩)
  | closed he => exact .inl (completeClose_counter _ _ he)
  | drained => exact .inl (enterDrain_counter _)
  | retained => exact .inl rfl
  | restored pfail =>
    rcases hcold (restored_counter pfail { s with pending := rest }) with heq | ⟨hs, hz⟩
    · exact .inl heq
    · exact .inr (.inr ⟨.inl ⟨_, hhead⟩, hs, hz⟩)
  | poweredUp hu ht =>
    cases ht
    rw [if_pos hu]
    rcases hcold (verifyStore_counter
      { s with pending := rest, prescaler := ⟨0, 0, []⟩, retainDuration := 0 }) with heq | ⟨hs, hz⟩
    · exact .inl heq
    · exact .inr (.inr ⟨.inr ⟨_, hhead⟩, hs, hz⟩)
  | lost => simp [losesStore, hp] at hf

/-! ### The period log (R106) -/

/-- R106 for the records in the log alone. -/
def LogFits (s : State) : Prop :=
  s.store.log.entries.length ≤ logRecordLimit ∧ bytesUsed s.store.log.entries ≤ logByteLimit

theorem LogLaw.fits {s : State} (h : LogLaw s) : LogFits s :=
  ⟨(Nat.le_add_right _ _).trans h.1, (Nat.le_add_right _ _).trans h.2⟩

/-- Where no record is being written, the log alone decides. -/
theorem LogFits.logLaw {s : State} (h : LogFits s) (hb : s.building = none) : LogLaw s := by
  obtain ⟨hlen, hbytes⟩ := h
  refine ⟨?_, ?_⟩
  · rw [addedRecords, hb]; exact hlen
  · rw [addedBytes, hb]; exact hbytes

theorem logLaw_of_eq {s t : State} (hl : t.store.log = s.store.log) (hb : t.building = s.building)
    (hs : LogLaw s) : LogLaw t := by
  unfold LogLaw addedRecords addedBytes; rw [hl, hb]; exact hs

theorem logFits_of_eq {s t : State} (hl : t.store.log = s.store.log) (hs : LogFits s) : LogFits t := by
  unfold LogFits; rw [hl]; exact hs

/-- What an act does to the log: it leaves it, shortens it, or begins a record that has its room. -/
theorem Act.log_cases {s₀ s t : State} (h : Act s₀ s t) :
    (t.store.log = s.store.log ∧ t.building = s.building)
    ∨ (t.store.log.entries.length ≤ s.store.log.entries.length
        ∧ bytesUsed t.store.log.entries ≤ bytesUsed s.store.log.entries ∧ t.building = s.building)
    ∨ (∃ b, t.building = some b ∧ t.store.log.entries.length < logRecordLimit
        ∧ bytesUsed t.store.log.entries + b.bytes.length ≤ logByteLimit) := by
  cases h with
  | quiet h => unfold Quiet at h; exact .inl ⟨by rw [h], by rw [h]⟩
  | log l h => exact .inr (.inl ⟨h.1, h.2, rfl⟩)
  | write b l hreq hready hlen hbytes => exact .inr (.inr ⟨b, rfl, hlen, hbytes⟩)
  | ports | register | input | chain | slot | captures | queue | engine | claim | reopen | close | run
  | enter | up | phase => exact .inl ⟨rfl, rfl⟩

theorem Act.logLaw {s₀ s t : State} (h : Act s₀ s t) (hs : LogLaw s) : LogLaw t := by
  rcases h.log_cases with ⟨hl, hb⟩ | ⟨hlen, hbytes, hb⟩ | ⟨b, hb, hlen, hbytes⟩
  · exact logLaw_of_eq hl hb hs
  · unfold LogLaw addedRecords addedBytes at hs ⊢
    rw [hb]
    omega
  · unfold LogLaw addedRecords addedBytes
    rw [hb]
    exact ⟨hlen, hbytes⟩

theorem Act.logFits {s₀ s t : State} (h : Act s₀ s t) (hs : LogFits s) : LogFits t := by
  rcases h.log_cases with ⟨hl, _⟩ | ⟨hlen, hbytes, _⟩ | ⟨b, _, hlen, hbytes⟩
  · exact logFits_of_eq hl hs
  · exact ⟨hlen.trans hs.1, hbytes.trans hs.2⟩
  · exact ⟨Nat.le_of_lt hlen, (Nat.le_add_right _ _).trans hbytes⟩

theorem Acts.logLaw {s₀ s t : State} (h : Acts s₀ s t) (hs : LogLaw s) : LogLaw t :=
  h.keeps (fun _ _ ha hu => ha.logLaw hu) hs

theorem Acts.logFits {s₀ s t : State} (h : Acts s₀ s t) (hs : LogFits s) : LogFits t :=
  h.keeps (fun _ _ ha hu => ha.logFits hu) hs

theorem logLaw_completeApplication {e : Increment} {targets : List Target} {s : State}
    (h : LogLaw s) : LogLaw (completeApplication e targets s) := by
  obtain ⟨ps, regs, heq⟩ := applicationTold_frame e targets s
  rw [completeApplication_eq, heq]
  exact h

theorem logFits_appendRecord {s : State} {b : Building} (hb : s.building = some b) (h : LogLaw s) :
    LogFits (appendRecord b.bytes s) := by
  obtain ⟨hlen, hbytes⟩ := h
  rw [addedRecords, hb] at hlen
  rw [addedBytes, hb] at hbytes
  refine ⟨?_, ?_⟩
  · show (s.store.log.entries ++ _).length ≤ _
    rw [List.length_append]; exact hlen
  · show bytesUsed (s.store.log.entries ++ [⟨b.bytes.length, false, b.bytes⟩]) ≤ _
    simpa [bytesUsed] using hbytes

theorem logLaw_completeClose {c : CurrentClose} {b : Building} {s : State} (he : s.engine = .closing)
    (hb : s.building = some b) (h : LogLaw s) : LogLaw (completeClose c b s) :=
  have ht : LogFits (closeTold c b s) := (closeTold_spec c b he).2.logFits (logFits_appendRecord hb h)
  have he : LogFits (closeEnded c.cause (closeTold c b s)) := ht
  (completeClose_acts c b s).logLaw (he.logLaw rfl)

theorem logLaw_enterDrain {s : State} (h : LogLaw s) : LogLaw (enterDrain s) := by
  have hf : LogLaw (freeAllSlots s) := (freeAllSlots_acts s s).logLaw h
  refine (enterDrain_acts s).logLaw (logLaw_of_eq ?_ ?_ hf) <;>
    (unfold drained resolveReopen; split <;> rfl)

theorem logLaw_restoreOverdue {s : State} (h : LogLaw s) : LogLaw (restoreOverdue s) := by
  refine logLaw_of_eq ?_ ?_ h <;> (unfold restoreOverdue; split <;> rfl)

theorem logLaw_restoreStored (pfail : Bool) {s : State} (h : LogLaw s) :
    LogLaw (restoreStored pfail s) := by
  have hb : LogLaw (restoreBlocks s) := (restoreBlocks_acts s s).logLaw h
  have hr : LogLaw (restoreSteps s) := by
    rw [restoreSteps_eq]
    generalize restoreBlocks s = b at hb
    refine logLaw_restoreOverdue ?_
    split
    next => exact logLaw_of_eq (s := b) rfl rfl hb
    next => exact logLaw_of_eq (s := b) rfl rfl hb
  rcases restoreStored_cases pfail s with ⟨_, heq⟩ | hacts
  · rw [heq]
    generalize restoreSteps s = u at hr
    exact logLaw_enterDrain (logLaw_of_eq rfl rfl hr)
  · exact (hacts s).logLaw hr

/-- The factory log is empty, and the record being written counts as before. -/
theorem logLaw_coldStart {s : State} (h : LogLaw s) : LogLaw (coldStart s) :=
  ⟨(Nat.add_le_add_right (Nat.zero_le _) _).trans h.1,
    (Nat.add_le_add_right (Nat.zero_le _) _).trans h.2⟩

theorem logLaw_restored (pfail : Bool) {s : State} (h : LogLaw s) : LogLaw (restored pfail s) := by
  unfold restored
  split
  next => exact logLaw_restoreStored pfail h
  next =>
    split
    next => exact logLaw_of_eq (s := coldStart s) rfl rfl (logLaw_coldStart h)
    next => exact logLaw_restoreStored false (logLaw_coldStart h)

theorem logLaw_verifyStore {s : State} (h : LogLaw s) : LogLaw (verifyStore s) := by
  unfold verifyStore
  split
  next => exact h
  next => exact logLaw_coldStart h

theorem RowStep.logLaw {s t : State} {i : Instr} (h : RowStep s i t) (hi : i ≠ .lossOfBothSupplies)
    (hs : LogLaw s) : LogLaw t := by
  cases h with
  | acts h => exact h.logLaw hs
  | applied h => exact logLaw_completeApplication hs
  | closed he hc hb => exact logLaw_completeClose he hb hs
  | drained h => exact logLaw_enterDrain (logLaw_of_eq (s := s) rfl rfl hs)
  | retained h => exact LogFits.logLaw hs.fits rfl
  | restored pfail h => exact logLaw_restored pfail hs
  | poweredUp h ht =>
    cases ht
    rw [if_pos h]
    have hv := logLaw_verifyStore (s := { s with prescaler := ⟨0, 0, []⟩, retainDuration := 0 })
      (logLaw_of_eq (s := s) rfl rfl hs)
    exact logLaw_of_eq rfl rfl hv
  | lost => exact absurd rfl hi

/-- Settles O56: every step but the loss of both supplies keeps the log within its limits. -/
theorem logLawKept : Obligations.LogLawKept := by
  intro s t hf hs h
  rcases rowStep_of_step h with rfl | ⟨i, rest, hp, hr⟩
  · exact hs
  · refine hr.logLaw ?_ (logLaw_of_eq (s := s) rfl rfl hs)
    rintro rfl
    simp [losesStore, hp] at hf

end Sys2Proof.Machine
end

section
/-! The coherence of the volatile state (R32, R89, R133, R139, R141, R172, R180, R189): every act keeps it, and
so does every change of the supply state. -/

namespace Sys2Proof.Machine

/-! ### The acts of one step -/

/-- The part has VDD: RUN-SUPPLY or DRAIN. -/
def Awake (s : State) : Prop := s.supply = .runSupply ∨ s.supply = .drain

theorem not_awake_iff (s : State) : ¬ Awake s ↔ s.supply ≠ .runSupply ∧ s.supply ≠ .drain :=
  not_or

/-- A block that works has VDD. -/
theorem awake_of_working {s : State} (ha : AsleepLaw s) (hw : Working s) : Awake s := by
  by_contra hn
  rw [not_awake_iff] at hn
  obtain ⟨hup, hex, _, heng, hcap, _⟩ := ha hn.1 hn.2
  rcases hw with h | ⟨p, h⟩ | h | h | h
  · rw [hup] at h; exact nomatch h
  · exact h (hex p)
  · exact h heng
  · exact h hcap
  · exact hn.2 h

theorem Act.supply {s₀ s t : State} (h : Act s₀ s t) : t.supply = s.supply := by
  cases h with
  | quiet h => unfold Quiet at h; rw [h]
  | register | chain | ports | log | input | slot | captures | queue | engine | claim | reopen
  | close | write | run | enter | up | phase => rfl

theorem Acts.supply {s₀ s t : State} (h : Acts s₀ s t) : t.supply = s.supply :=
  h.keeps (law := fun u => u.supply = s.supply) (fun _ _ ha hu => ha.supply.trans hu) rfl

/-- What counts as RUN-SUPPLY for a block is RUN-SUPPLY. -/
theorem Counting.runs {s₀ s : State} (h : Counting s₀ s) (hw : Working s₀ → Awake s) :
    s.supply = .runSupply := by
  rcases h with h | ⟨h, hnd⟩
  · exact h
  · exact (hw h).resolve_right hnd

/-! ### The law of the part asleep -/

theorem asleepLaw_of_awake {s : State} (h : Awake s) : AsleepLaw s :=
  fun h1 h2 => absurd h (not_or.mpr ⟨h1, h2⟩)

theorem asleepLaw_of_runs {s : State} (h : s.supply = .runSupply) : AsleepLaw s :=
  asleepLaw_of_awake (.inl h)

/-- An act that brings no work to a part asleep. -/
theorem Act.asleepLaw {s₀ s t : State} (h : Act s₀ s t) (hw : Working s₀ → Awake s)
    (hs : AsleepLaw s) : AsleepLaw t := by
  by_cases hawake : Awake s
  · exact asleepLaw_of_awake (by unfold Awake; rw [h.supply]; exact hawake)
  obtain ⟨h1, h2⟩ := (not_awake_iff s).mp hawake
  have hidle : ¬ Working s₀ := fun hw' => hawake (hw hw')
  have hruns : ¬ Counting s₀ s := fun hc => h1 (hc.runs hw)
  obtain ⟨hup, hex, hq, heng, hcap, hclaim, hclose, hmode⟩ := hs h1 h2
  intro _ _
  cases h with
  | quiet h => unfold Quiet at h; rw [h]; exact ⟨hup, hex, hq, heng, hcap, hclaim, hclose, hmode⟩
  | ports v h =>
    refine ⟨hup, fun p => ?_, hq, heng, hcap, hclaim, hclose, hmode⟩
    by_contra hp
    exact ((h p).2 hp).elim (fun h => h (hex p)) hidle
  | captures l h =>
    refine ⟨hup, hex, hq, heng, ?_, hclaim, hclose, hmode⟩
    by_contra hl
    exact (h hl).elim (fun h => h hcap) hidle
  | queue l _ hl =>
    refine ⟨hup, hex, ?_, heng, hcap, hclaim, hclose, hmode⟩
    by_contra hne
    rcases hl hne with h | h | h
    · exact h hq
    · exact hidle h
    · exact h1 h
  | engine e h =>
    refine ⟨hup, hex, hq, ?_, hcap, hclaim, hclose, hmode⟩
    by_contra he
    exact (h.working he).elim (fun h => h heng) hidle
  | claim c h =>
    refine ⟨hup, hex, hq, heng, hcap, ?_, hclose, hmode⟩
    by_contra hc
    exact (h hc).elim (fun h => h hclaim) fun h => hruns h.2
  | close _ _ _ _ hc => exact absurd hc hruns
  | write b l hreq => rw [hclose] at hreq; exact nomatch hreq
  | run _ _ hc => exact absurd hc hruns
  | enter _ _ _ hc => exact absurd hc hruns
  | up h => exact absurd h h1
  | register | log | input | chain | slot | reopen | phase =>
    exact ⟨hup, hex, hq, heng, hcap, hclaim, hclose, hmode⟩

/-! ### The close, the engine and the chain -/

/-- In IDLE no close is in flight, the engine writes none, and no record is being built. -/
theorem CloseLaw.idle {s : State} (hs : CloseLaw s) (h : s.closeState = .idle) :
    s.currentClose = none ∧ s.engine ≠ .closing ∧ s.building = none := by
  obtain ⟨hcur, heng, hbuild⟩ := hs
  have hnw : s.closeState ≠ .writing := by rw [h]; exact (nomatch ·)
  exact ⟨hcur.mp h, fun he => hnw (heng.mpr he), by_contra fun hb => hnw (hbuild.mpr hb)⟩

/-- Another engine state beside the closing one. -/
theorem closeLaw_engine {s t : State} (hs : CloseLaw s) (hst : t.closeState = s.closeState)
    (hcur : t.currentClose = s.currentClose) (hb : t.building = s.building)
    (hfrom : s.engine ≠ .closing) (hto : t.engine ≠ .closing) : CloseLaw t := by
  obtain ⟨hc, he, hbuild⟩ := hs
  unfold CloseLaw
  rw [hst, hcur, hb]
  exact ⟨hc, iff_of_false (fun h => hfrom (he.mp h)) hto, hbuild⟩

theorem Act.closeLaw {s₀ s t : State} (h : Act s₀ s t) (h₀ : AsleepLaw s₀) (hs : CloseLaw s)
    (hE : EngineLaw s) : CloseLaw t := by
  cases h with
  | quiet h => unfold Quiet at h; rw [h]; exact hs
  | engine e h => exact closeLaw_engine hs rfl rfl rfl h.from_other h.to_other
  | close cause requester hidle =>
    obtain ⟨hcur, heng, hbuild⟩ := hs.idle (hidle h₀)
    exact ⟨iff_of_false (nomatch ·) (nomatch ·), iff_of_false (nomatch ·) heng,
      iff_of_false (nomatch ·) fun h => h hbuild⟩
  | write b l hreq =>
    refine ⟨iff_of_false (nomatch ·) fun hcur => ?_, iff_of_true rfl rfl,
      iff_of_true rfl (nomatch ·)⟩
    have hidle := hs.1.mpr hcur
    rw [hreq] at hidle
    exact nomatch hidle
  | run hmode hcap =>
    have heng : s.engine = .halted := by
      rcases hE.1 hmode with h | h
      · exact h
      · rw [hcap] at h; exact nomatch h
    refine closeLaw_engine hs rfl rfl rfl ?_ (nomatch ·)
    rw [heng]; exact (nomatch ·)
  | ports | register | log | input | chain | slot | captures | queue | claim | reopen | enter | up
  | phase => exact hs

theorem Act.engineLaw {s₀ s t : State} (h : Act s₀ s t) (hs : EngineLaw s) : EngineLaw t := by
  cases h with
  | quiet h => unfold Quiet at h; rw [h]; exact hs
  | engine e h =>
    refine ⟨fun hmode => ?_, fun he => .inl (h.halted he)⟩
    rcases h.setup hmode with he | ⟨i, w, copies, stamp, he⟩ | hready
    · exact .inl he
    · exact .inr (by simp only [capturing, he])
    · rcases hs.1 hmode with hold | hold
      · rw [hready] at hold; exact nomatch hold
      · simp only [capturing, hready] at hold; exact nomatch hold
  | write b l _ hready =>
    refine ⟨fun hmode => ?_, fun he => nomatch he⟩
    rcases hs.1 hmode with hold | hold
    · rw [hready] at hold; exact nomatch hold
    · simp only [capturing, hready] at hold; exact nomatch hold
  | run => exact ⟨(nomatch ·), (nomatch ·)⟩
  | enter r hmode =>
    refine ⟨fun h => (nomatch h), fun he => (hs.2 he).imp_left fun h => ?_⟩
    rw [hmode] at h; exact nomatch h
  | ports | register | log | input | chain | slot | captures | queue | claim | reopen | close | up
  | phase => exact hs

theorem Act.reopenLaw {s₀ s t : State} (h : Act s₀ s t) (hs : ReopenLaw s) (hC : CloseLaw s) :
    ReopenLaw t := by
  obtain ⟨hreopen, hcause⟩ := hs
  cases h with
  | quiet h => unfold Quiet at h; rw [h]; exact ⟨hreopen, hcause⟩
  | reopen r h => exact ⟨(not_congr h).trans hreopen, hcause⟩
  | close cause requester _ hc =>
    refine ⟨hreopen, fun c hmem => ?_⟩
    cases Option.mem_some.mp hmem
    exact hc
  | run hmode =>
    have hne : s.store.mode ≠ .enteringSetup := by rw [hmode]; exact (nomatch ·)
    exact ⟨iff_of_false (fun h => hne (hreopen.mp h)) (nomatch ·),
      fun c hmem => (hcause c hmem).trans (iff_of_false hne (nomatch ·))⟩
  | enter r hmode hidle =>
    refine ⟨iff_of_true (nomatch ·) rfl, fun c hmem => ?_⟩
    have hnone : s.currentClose = none := (hC.idle hidle).1
    change c ∈ s.currentClose at hmem
    rw [hnone] at hmem
    exact nomatch hmem
  | ports | register | log | input | chain | slot | captures | queue | engine | claim | write | up
  | phase => exact ⟨hreopen, hcause⟩

theorem Act.claimLaw {s₀ s t : State} (h : Act s₀ s t) (hs : ClaimLaw s) : ClaimLaw t := by
  cases h with
  | quiet h => unfold Quiet at h; rw [h]; exact hs
  | claim c h => exact fun hc => (h hc).elim hs fun h => h.1
  | run => exact fun h => absurd rfl h
  | enter r hmode =>
    intro hc
    have hsetup := hs hc
    rw [hmode] at hsetup
    exact nomatch hsetup
  | ports | register | log | input | chain | slot | captures | queue | engine | reopen | close
  | write | up | phase => exact hs

theorem Act.demandLaw {s₀ s t : State} (h : Act s₀ s t) (hw : Working s₀ → Awake s)
    (hs : DemandLaw s) : DemandLaw t := by
  cases h with
  | quiet h => unfold Quiet at h; rw [h]; exact hs
  | chain f c h =>
    cases f with
    | demand => exact fun hn hrun => (h.demand rfl hrun).elim (hs hn) fun hc => hn (hc.runs hw)
    | overdue | inhibit => exact hs
  | close => exact fun _ => held_running
  | ports | register | log | input | slot | captures | queue | engine | claim | reopen | write | run
  | enter | up | phase => exact hs

theorem Act.phaseLaw {s₀ s t : State} (h : Act s₀ s t) (h₀ : PhaseLaw s₀) (hs : PhaseLaw s) :
    PhaseLaw t := by
  cases h with
  | quiet h => unfold Quiet at h; rw [h]; exact hs
  | phase c h => exact h h₀
  | ports | register | log | input | chain | slot | captures | queue | engine | claim | reopen | close
  | write | run | enter | up => exact hs

theorem Act.coherent {s₀ s t : State} (h : Act s₀ s t) (h₀ : Coherent s₀)
    (hw : Working s₀ → Awake s) (hs : Coherent s) : Coherent t := by
  obtain ⟨ha, hc, he, hr, hk, hd, hp⟩ := hs
  obtain ⟨ha₀, _, _, _, _, _, hp₀⟩ := h₀
  exact ⟨h.asleepLaw hw ha, h.closeLaw ha₀ hc he, h.engineLaw he, h.reopenLaw hr hc, h.claimLaw hk,
    h.demandLaw hw hd, h.phaseLaw hp₀ hp⟩

/-- A run of acts, whose step began in a coherent part, and which starts with VDD if that part worked. -/
theorem Acts.coherent {s₀ s t : State} (h : Acts s₀ s t) (h₀ : Coherent s₀)
    (hw : Working s₀ → Awake s) (hs : Coherent s) : Coherent t :=
  (h.keeps (law := fun u => Coherent u ∧ (Working s₀ → Awake u))
    (fun u v ha hu => ⟨ha.coherent h₀ hu.2 hu.1, fun hw' => by
      unfold Awake; rw [ha.supply]; exact hu.2 hw'⟩) ⟨hs, hw⟩).1

/-- A run of acts from the state in which the step began. -/
theorem Acts.coherent_self {s t : State} (h : Acts s s t) (hs : Coherent s) : Coherent t :=
  h.coherent hs (awake_of_working hs.1) hs

/-! ### The part without VDD -/

theorem phaseLaw_start {s : State} (h : s.prescaler = ⟨0, 0, []⟩) : PhaseLaw s := by
  unfold PhaseLaw; rw [h]; decide

/-- All that a coherent part without VDD holds. -/
structure Dark (s : State) : Prop where
  retain : s.supply ≠ .runSupply
  drain : s.supply ≠ .drain
  portsUp : s.portsUp = false
  execution : ∀ p : PortId, s.ports[p].execution = none
  queue : s.queue = []
  engine : s.engine = .halted
  captures : s.captureQueue = []
  claim : s.claim = none
  closeState : s.closeState = .idle
  currentClose : s.currentClose = none
  building : s.building = none
  reopen : s.reopen = none
  mode : s.store.mode ≠ .enteringSetup
  demand : s.store.chains.demand.state ≠ .running
  phase : PhaseLaw s

theorem Dark.coherent {s : State} (h : Dark s) : Coherent s := by
  refine ⟨fun _ _ => ⟨h.portsUp, h.execution, h.queue, h.engine, h.captures, h.claim, h.closeState,
      h.mode⟩, ?_, ⟨fun _ => .inl h.engine, fun _ => .inr ⟨h.retain, h.drain⟩⟩, ?_, ?_,
    fun _ => h.demand, h.phase⟩
  · unfold CloseLaw
    rw [h.closeState, h.currentClose, h.engine, h.building]
    decide
  · refine ⟨iff_of_false (fun hr => hr h.reopen) h.mode, ?_⟩
    rw [h.currentClose]
    exact fun c hc => nomatch hc
  · exact fun hc => absurd h.claim hc

theorem Coherent.dark {s : State} (hs : Coherent s) (h1 : s.supply ≠ .runSupply)
    (h2 : s.supply ≠ .drain) : Dark s := by
  obtain ⟨ha, hc, _, hr, _, hd, hp⟩ := hs
  obtain ⟨hup, hex, hq, heng, hcap, hclaim, hclose, hmode⟩ := ha h1 h2
  obtain ⟨hcur, _, hbuild⟩ := hc.idle hclose
  exact ⟨h1, h2, hup, hex, hq, heng, hcap, hclaim, hclose, hcur, hbuild,
    by_contra fun h => hmode (hr.1.mp h), hmode, hd h1, hp⟩

/-- A cold start leaves a part without VDD dark: its mode is SETUP and its DEMAND chain unassigned. -/
theorem Dark.coldStart {s : State} (h : Dark s) : Dark (coldStart s) where
  retain := h.retain
  drain := h.drain
  portsUp := h.portsUp
  execution := h.execution
  queue := h.queue
  engine := h.engine
  captures := h.captures
  claim := h.claim
  closeState := h.closeState
  currentClose := h.currentClose
  building := h.building
  reopen := h.reopen
  mode h := nomatch h
  demand h := nomatch h
  phase := h.phase

/-- Another state without VDD, all else that a dark part holds as it was. -/
theorem Dark.withSupply {s : State} (h : Dark s) {x : SupplyState} (hx : x ≠ .runSupply)
    (hx' : x ≠ .drain) (b : Bool) :
    Dark { s with supply := x, pfailAsserted := b } :=
  { h with retain := hx, drain := hx' }

theorem retainOrRestore_ne (b : Bool) :
    retainOrRestore b ≠ .runSupply ∧ retainOrRestore b ≠ .drain := by
  cases b <;> exact ⟨(nomatch ·), (nomatch ·)⟩

theorem idlePorts_execution (p : PortId) : (Vector.replicate 3 idlePort)[p].execution = none := by
  rw [get_replicate]; rfl

/-- The volatile state lost, with a mode that is retained: RETAIN entry, and the loss of both supplies. -/
theorem dark_of_lost {s t : State} (hv : t = { loseVolatile s with
      store := t.store, inputs := t.inputs, freeIndex := t.freeIndex, prescaler := t.prescaler
      retainDuration := t.retainDuration, pfailAsserted := t.pfailAsserted, supply := t.supply })
    (h1 : t.supply ≠ .runSupply) (h2 : t.supply ≠ .drain) (hm : t.store.mode ≠ .enteringSetup)
    (hd : t.store.chains.demand.state ≠ .running) (hp : PhaseLaw t) : Dark t where
  retain := h1
  drain := h2
  portsUp := by rw [hv]; rfl
  execution p := by rw [hv]; exact idlePorts_execution p
  queue := by rw [hv]; rfl
  engine := by rw [hv]; rfl
  captures := by rw [hv]; rfl
  claim := by rw [hv]; rfl
  closeState := by rw [hv]; rfl
  currentClose := by rw [hv]; rfl
  building := by rw [hv]; rfl
  reopen := by rw [hv]; rfl
  mode := hm
  demand := hd
  phase := hp

theorem drainComplete_mode {s : State} (h : drainComplete s = true) :
    s.store.mode ≠ .enteringSetup := by
  unfold drainComplete at h
  simp only [Bool.and_eq_true, bne_iff_ne] at h
  exact h.1.2

theorem coherent_retained {s : State} (h : drainComplete s = true) (hs : Coherent s) :
    Coherent { loseVolatile s with retainDuration := 0, supply := retainOrRestore s.pfailAsserted } := by
  obtain ⟨h1, h2⟩ := retainOrRestore_ne s.pfailAsserted
  obtain ⟨_, _, _, _, _, _, hp⟩ := hs
  have hm : s.store.mode ≠ .enteringSetup := drainComplete_mode h
  exact (dark_of_lost (s := s)
    (t := { loseVolatile s with retainDuration := 0, supply := retainOrRestore s.pfailAsserted })
    rfl h1 h2 hm heldAtReload_running hp).coherent

theorem lostStore_mode (n : Nat) : (lostStore n).mode ≠ .enteringSetup := by
  unfold lostStore
  dsimp only
  split
  next => exact (nomatch ·)
  next h => exact h

theorem coherent_lost {s t : State} (h : s.supply ≠ .unpowered)
    (ht : exec .lossOfBothSupplies s = .next t) : Coherent t := by
  cases ht
  rw [if_neg h]
  refine (dark_of_lost (s := s) rfl ?_ ?_ (lostStore_mode s.freeIndex) heldAtReload_running
    (phaseLaw_start rfl)).coherent <;> exact (nomatch ·)

/-! ### The rest of the steps -/

theorem coherent_completeApplication {e : Increment} {targets : List Target} {s : State}
    (h : s.engine = .applying e targets) (hs : Coherent s) :
    Coherent (completeApplication e targets s) := by
  obtain ⟨ha, hc, he, hr, hk, hd, hp⟩ := hs
  obtain ⟨ps, regs, heq⟩ := applicationTold_frame e targets s
  have hawake : Awake s := awake_of_working ha (.inr (.inr (.inl (by rw [h]; exact (nomatch ·)))))
  have hnc : s.engine ≠ .closing := by rw [h]; exact (nomatch ·)
  have hmode : s.store.mode ≠ .setup := by
    intro hm
    rcases he.1 hm with h' | h'
    · rw [h] at h'; exact nomatch h'
    · simp only [capturing, h] at h'; exact nomatch h'
  rw [completeApplication_eq, heq]
  exact ⟨asleepLaw_of_awake hawake, closeLaw_engine hc rfl rfl rfl hnc (nomatch ·),
    ⟨fun hm => absurd hm hmode, fun h => nomatch h⟩, hr, hk, hd, hp⟩

/-- A close at its end: IDLE with nothing in flight, and SETUP where it was the SETUP close. -/
theorem coherent_closeEnded (cause : Cause) {s : State} (he : s.engine = .closing)
    (hs : Coherent s) : Coherent (closeEnded cause s) := by
  obtain ⟨ha, hc, hE, hr, hk, hd, hp⟩ := hs
  have hawake : Awake s := awake_of_working ha (.inr (.inr (.inl (by rw [he]; exact (nomatch ·)))))
  have hmode : s.store.mode ≠ .setup := by
    intro hm
    rcases hE.1 hm with h' | h'
    · rw [he] at h'; exact nomatch h'
    · simp only [capturing, he] at h'; exact nomatch h'
  have hclose : CloseLaw (closeEnded cause s) := by
    refine ⟨iff_of_true rfl rfl, iff_of_false (nomatch ·) ?_, iff_of_false (nomatch ·) (fun h => h rfl)⟩
    show (if cause = .setup then Engine.halted else .ready) ≠ .closing
    split <;> exact (nomatch ·)
  have hnone : ∀ (P : CurrentClose → Prop), ∀ c ∈ (closeEnded cause s).currentClose, P c :=
    fun P c hmem => nomatch hmem
  refine ⟨asleepLaw_of_awake hawake, hclose, ?_⟩
  unfold closeEnded
  by_cases hcause : cause = .setup
  · simp only [if_pos hcause]
    exact ⟨⟨fun _ => .inl rfl, fun _ => .inl rfl⟩,
      ⟨iff_of_false (fun h => h rfl) (nomatch ·), hnone _⟩, fun _ => rfl, hd, hp⟩
  · simp only [if_neg hcause]
    exact ⟨⟨fun hm => absurd hm hmode, fun h => nomatch h⟩, ⟨hr.1, hnone _⟩, hk, hd, hp⟩

theorem coherent_completeClose {c : CurrentClose} {b : Building} {s : State}
    (he : s.engine = .closing) (hs : Coherent s) : Coherent (completeClose c b s) := by
  obtain ⟨hf, hacts⟩ := closeTold_spec c b he
  have hw : Working s → Awake s := awake_of_working hs.1
  have happ : Coherent (appendRecord b.bytes s) := hs
  have ht : Coherent (closeTold c b s) := hacts.coherent hs hw happ
  have heng : (closeTold c b s).engine = .closing := by
    unfold CloseFrame at hf; rw [hf]; exact he
  have hsup : (closeTold c b s).supply = s.supply := hacts.supply
  refine (completeClose_acts c b s).coherent hs (fun h => ?_) (coherent_closeEnded c.cause heng ht)
  have := hw h
  unfold Awake at this ⊢
  show (closeTold c b s).supply = _ ∨ (closeTold c b s).supply = _
  rwa [hsup]

/-- Drain entry from RUN-SUPPLY: the DEMAND chain held, a REOPEN that waits resolved. -/
theorem coherent_drained {s : State} (h : s.supply = .runSupply) (hs : Coherent s) :
    Coherent (drained s) := by
  obtain ⟨ha, hc, hE, hr, hk, hd, hp⟩ := hs
  have hasleep : AsleepLaw (drained s) := asleepLaw_of_awake (.inr (drained_supply s))
  have hhalt : s.engine = .halted → s.store.mode = .setup :=
    fun he => (hE.2 he).resolve_right fun hn => hn.1 h
  have hdemand : DemandLaw (drained s) := fun _ => held_running
  refine ⟨hasleep, ?_⟩
  unfold drained resolveReopen at hdemand ⊢
  split at hdemand
  next hres =>
    obtain ⟨hmode, hidle⟩ := hres
    have hcur : s.currentClose = none := (hc.idle hidle).1
    rw [if_pos ⟨hmode, hidle⟩]
    refine ⟨hc, ⟨fun h => (nomatch h), fun he => ?_⟩, ⟨iff_of_false (fun h => h rfl) (nomatch ·), ?_⟩,
      fun h => absurd rfl h, hdemand, hp⟩
    · have hm := hhalt he
      rw [show s.store.mode = _ from hmode] at hm
      exact nomatch hm
    · intro c hmem
      change c ∈ s.currentClose at hmem
      rw [hcur] at hmem
      exact nomatch hmem
  next hres =>
    rw [if_neg hres]
    exact ⟨hc, ⟨hE.1, fun he => .inl (hhalt he)⟩, hr, fun h => absurd rfl h, hdemand, hp⟩

theorem coherent_enterDrain {s : State} (h : s.supply = .runSupply) (hs : Coherent s) :
    Coherent (enterDrain s) := by
  have hacts := freeAllSlots_acts s s
  have hd := coherent_drained (hacts.supply.trans h) (hacts.coherent_self hs)
  exact (enterDrain_acts s).coherent_self hd

/-- The part in RUN-SUPPLY again, from dark: the engine as its mode asks. -/
theorem coherent_woken {s : State} (h : Dark s) : Coherent (woken s) := by
  have hmode : s.store.mode = .run ∨ s.store.mode = .setup := by
    cases hm : s.store.mode with
    | run => exact .inl rfl
    | setup => exact .inr rfl
    | enteringSetup => exact absurd hm h.mode
  have hclose : CloseLaw (woken s) := by
    have hidle : (woken s).closeState ≠ .writing := by
      show s.closeState ≠ _
      rw [h.closeState]; exact (nomatch ·)
    refine ⟨iff_of_true h.closeState h.currentClose, iff_of_false hidle ?_,
      iff_of_false hidle fun hb => hb h.building⟩
    show (if s.store.mode = .run then Engine.ready else .halted) ≠ .closing
    split <;> exact (nomatch ·)
  have hengine : EngineLaw (woken s) := by
    show (s.store.mode = .setup → (if s.store.mode = .run then Engine.ready else .halted) = .halted ∨ _)
      ∧ ((if s.store.mode = .run then Engine.ready else .halted) = .halted → s.store.mode = .setup ∨ _)
    rcases hmode with hm | hm <;> rw [hm]
    · exact ⟨(nomatch ·), (nomatch ·)⟩
    · exact ⟨fun _ => .inl rfl, fun _ => .inl rfl⟩
  have hreopen : ReopenLaw (woken s) := by
    obtain ⟨_, _, _, hr, _⟩ := h.coherent
    exact hr
  exact ⟨asleepLaw_of_runs rfl, hclose, hengine, hreopen, fun hc => absurd h.claim hc,
    fun hn => absurd rfl hn, h.phase⟩

theorem coherent_restoreSteps {s : State} (h : Dark s) : Coherent (restoreSteps s) := by
  have hs := h.coherent
  have hb := restoreBlocks_acts s s
  have hblocks : Dark (restoreBlocks s) :=
    (hb.coherent_self hs).dark (by rw [hb.supply]; exact h.retain)
      (by rw [hb.supply]; exact h.drain)
  have hnw : Working s → Awake (woken (restoreBlocks s)) :=
    fun hw => absurd (awake_of_working hs.1 hw) (not_or.mpr ⟨h.retain, h.drain⟩)
  exact (restoreSteps_acts s fun _ => h.closeState).coherent hs hnw (coherent_woken hblocks)

theorem coherent_restoreStored (pfail : Bool) {s : State} (h : Dark s) :
    Coherent (restoreStored pfail s) := by
  have hsteps := coherent_restoreSteps h
  rcases restoreStored_cases pfail s with ⟨_, heq⟩ | hacts
  · rw [heq]
    have hrun := restoreSteps_supply s
    generalize restoreSteps s = u at hsteps hrun
    exact coherent_enterDrain (s := { u with pfailAsserted := true }) hrun hsteps
  · exact (hacts (restoreSteps s)).coherent_self hsteps

theorem coherent_restored (pfail : Bool) {s : State} (h : Dark s) : Coherent (restored pfail s) := by
  unfold restored
  split
  next => exact coherent_restoreStored pfail h
  next =>
    split
    next =>
      exact (h.coldStart.withSupply (x := .retain) (nomatch ·) (nomatch ·) true).coherent
    next => exact coherent_restoreStored false h.coldStart

theorem coherent_poweredUp {deasserted : Bool} {s t : State} (hs : Coherent s)
    (hu : s.supply = .unpowered) (ht : exec (.powerUp deasserted) s = .next t) : Coherent t := by
  cases ht
  rw [if_pos hu]
  have h : Dark s := hs.dark (by rw [hu]; exact (nomatch ·)) (by rw [hu]; exact (nomatch ·))
  have hp : Dark { s with prescaler := ⟨0, 0, []⟩, retainDuration := 0 } :=
    { h with phase := phaseLaw_start rfl }
  have hv : Dark (verifyStore { s with prescaler := ⟨0, 0, []⟩, retainDuration := 0 }) := by
    unfold verifyStore
    split
    next => exact hp
    next => exact hp.coldStart
  generalize verifyStore { s with prescaler := ⟨0, 0, []⟩, retainDuration := 0 } = u at hv
  have hh : Dark (onChain .demand heldAtReload (restartInputs u)) :=
    { hv with demand := heldAtReload_running }
  obtain ⟨h1, h2⟩ := retainOrRestore_ne (!deasserted)
  exact (hh.withSupply h1 h2 _).coherent

theorem RowStep.coherent {s t : State} {i : Instr} (h : RowStep s i t) (hs : Coherent s) :
    Coherent t := by
  cases h with
  | acts h => exact h.coherent_self hs
  | applied h => exact coherent_completeApplication h hs
  | closed he hc hb => exact coherent_completeClose he hs
  | drained h => exact coherent_enterDrain (s := { s with pfailAsserted := true }) h hs
  | retained h => exact coherent_retained h hs
  | restored pfail h =>
    refine coherent_restored pfail (hs.dark ?_ ?_) <;>
      rcases h with h | h <;> rw [h] <;> exact (nomatch ·)
  | poweredUp h ht => exact coherent_poweredUp hs h ht
  | lost h ht => exact coherent_lost h ht

/-- Settles O55: every step keeps the coherence of the volatile state. -/
theorem coherenceKept : Obligations.CoherenceKept := by
  intro s t hs h
  rcases rowStep_of_step h with rfl | ⟨i, rest, _, hr⟩
  · exact hs
  · exact hr.coherent (s := { s with pending := rest }) hs

end Sys2Proof.Machine
end

section
/-! The bindings of the registers (R6) and the targets of the application in flight (R9): every step but the
loss of both supplies keeps them. -/

namespace Sys2Proof.Machine

/-! ### One register written -/

/-- R6 in terms of pairs. -/
theorem bindingLaw_iff (s : State) : BindingLaw s ↔ ∀ i j : RegSlot, i ≠ j →
    Claims s.store.registers[i] → Claims s.store.registers[j] →
      ¬ SamePair s.store.registers[i] s.store.registers[j] :=
  forall₂_congr fun _ _ => forall₃_congr fun _ _ _ => by rw [not_and_or]

theorem bindingLaw_of_registers {s t : State} (h : t.store.registers = s.store.registers)
    (hs : BindingLaw s) : BindingLaw t := by
  unfold BindingLaw; rw [h]; exact hs

theorem bindingLaw_setRegister {s : State} {i : RegSlot} {r : RegisterRec} (h : PairKept s i r)
    (hs : BindingLaw s) : BindingLaw (setRegister i r s) := by
  rw [bindingLaw_iff] at hs ⊢
  have hother : ∀ j, j ≠ i → Claims r → Claims s.store.registers[j] →
      ¬ SamePair s.store.registers[j] r := by
    intro j hj hr hcj hp
    rcases h hr with ⟨hci, hpi⟩ | hfree
    · exact hs j i hj hcj hci ⟨hp.1.trans hpi.1.symm, hp.2.trans hpi.2.symm⟩
    · exact hfree j hj hcj hp
  intro j k hjk hcj hck hp
  rw [setRegister_store_registers, get_set] at hcj hck
  rw [setRegister_store_registers, get_set, get_set] at hp
  by_cases hj : i = j
  · subst hj
    rw [if_pos rfl] at hcj hp
    rw [if_neg hjk] at hck hp
    exact hother k (Ne.symm hjk) hcj hck ⟨hp.1.symm, hp.2.symm⟩
  · rw [if_neg hj] at hcj hp
    by_cases hk : i = k
    · subst hk
      rw [if_pos rfl] at hck hp
      exact hother j hjk hck hcj hp
    · rw [if_neg hk] at hck hp
      exact hs j k hjk hcj hck hp

theorem Act.bindingLaw {s₀ s t : State} (h : Act s₀ s t) (hs : BindingLaw s) : BindingLaw t := by
  cases h with
  | quiet h => unfold Quiet at h; rw [h]; exact hs
  | register i r h => exact bindingLaw_setRegister h.1 hs
  | ports | log | input | chain | slot | captures | queue | engine | claim | reopen | close | write
  | run | enter | up | phase => exact hs

theorem Acts.bindingLaw {s₀ s t : State} (h : Acts s₀ s t) (hs : BindingLaw s) : BindingLaw t :=
  h.keeps (fun _ _ ha hu => ha.bindingLaw hu) hs

/-! ### Targets under acts -/

/-- An engine HALTED, READY or at a close has no targets. -/
theorem targetLaw_of_none {s : State} (h : targetsInFlight s.engine = []) : TargetLaw s := by
  intro t ht; rw [h] at ht; exact nomatch ht

theorem targets_of_capturing {s : State} (h : capturing s = true) :
    targetsInFlight s.engine = [] := by
  unfold capturing at h
  cases he : s.engine with
  | capturing => rfl
  | halted | ready | applying | closing => rw [he] at h; exact nomatch h

/-- In SETUP, and while a close is written, there are no targets. -/
theorem targets_of_setup_or_closing {s : State} (hE : EngineLaw s)
    (h : s.store.mode = .setup ∨ s.engine = .closing) : targetsInFlight s.engine = [] := by
  rcases h with hm | hc
  · rcases hE.1 hm with he | hcap
    · rw [he]; rfl
    · exact targets_of_capturing hcap
  · rw [hc]; rfl

theorem targetLaw_setRegister {s : State} {i : RegSlot} {r : RegisterRec} (h : RegisterMove s i r)
    (hE : EngineLaw s) (hs : TargetLaw s) : TargetLaw (setRegister i r s) := by
  rcases h.2 with hsus | hwhen
  · intro t ht
    rw [setRegister_store_registers, get_set]
    split
    next => exact .inr hsus
    next => exact hs t ht
  · exact targetLaw_of_none (targets_of_setup_or_closing hE hwhen)

theorem Act.targetLaw {s₀ s t : State} (h : Act s₀ s t) (hE : EngineLaw s) (hs : TargetLaw s) :
    TargetLaw t := by
  cases h with
  | quiet h => unfold Quiet at h; rw [h]; exact hs
  | register i r h => exact targetLaw_setRegister h hE hs
  | engine e h => exact fun t ht => .inl (h.targets t ht)
  | write => exact targetLaw_of_none rfl
  | run => exact targetLaw_of_none rfl
  | ports | log | input | chain | slot | captures | queue | claim | reopen | close | enter | up
  | phase => exact hs

theorem Acts.targetLaw {s₀ s t : State} (h : Acts s₀ s t) (h₀ : Coherent s₀)
    (hw : Working s₀ → Awake s) (hC : Coherent s) (hs : TargetLaw s) : TargetLaw t :=
  (h.keeps (law := fun u => Coherent u ∧ (Working s₀ → Awake u) ∧ TargetLaw u)
    (fun u v ha ⟨hu, hwu, htu⟩ => ⟨ha.coherent h₀ hwu hu, fun hw' => by
      unfold Awake; rw [ha.supply]; exact hwu hw', ha.targetLaw hu.2.2.1 htu⟩) ⟨hC, hw, hs⟩).2.2

theorem Acts.targetLaw_self {s t : State} (h : Acts s s t) (hC : Coherent s) (hs : TargetLaw s) :
    TargetLaw t :=
  h.targetLaw hC (awake_of_working hC.1) hC hs

/-! ### The completion of an application -/

/-- What the commits of an application find: R6, and each target LIVE when the application began stands in its
slot with its pair, unless it has become SUSPECT. -/
def Committable (targets : List Target) (s : State) : Prop :=
  BindingLaw s ∧ ∀ t ∈ targets, t.record.state = .live →
    s.store.registers[t.slot].state = .suspect
      ∨ Claims s.store.registers[t.slot] ∧ SamePair s.store.registers[t.slot] t.record

/-- An amount leaves the pair of a register, and a LIVE register LIVE or OVERFLOWED. -/
theorem applyAmount_pair (scale amount : Nat) (r : RegisterRec) :
    SamePair r (applyAmount scale amount r)
      ∧ (r.state = .live → Claims (applyAmount scale amount r)) := by
  unfold applyAmount
  split
  next => exact ⟨⟨rfl, rfl⟩, fun h => .inl h⟩
  next =>
    unfold applyStop
    dsimp only
    split
    next => exact ⟨⟨rfl, rfl⟩, fun h => .inl h⟩
    next => exact ⟨⟨rfl, rfl⟩, fun _ => .inr rfl⟩

theorem takesAmount_iff (s : State) (t : Target) : takesAmount s t = true ↔
    t.record.state = .live ∧ s.store.registers[t.slot].state ≠ .suspect := by
  unfold takesAmount
  rw [Bool.and_eq_true, beq_iff_eq, bne_iff_ne]

theorem committable_commitTarget {targets : List Target} {s : State} {t : Target} (amount : Nat)
    (ht : t ∈ targets) (hs : Committable targets s) : Committable targets (commitTarget amount s t) := by
  obtain ⟨hb, hc⟩ := hs
  unfold commitTarget
  split
  next htakes =>
    obtain ⟨hlive, hns⟩ := (takesAmount_iff s t).mp htakes
    obtain ⟨hclaims, hpair⟩ := (hc t ht hlive).resolve_left hns
    obtain ⟨hsame, hstands⟩ := applyAmount_pair (scaleOf s t.record.quantity) amount t.record
    refine ⟨bindingLaw_setRegister (fun _ => .inl ⟨hclaims, ?_⟩) hb, fun t' ht' hlive' => ?_⟩
    · exact ⟨hpair.1.trans hsame.1, hpair.2.trans hsame.2⟩
    · rw [putRegister_store_registers, get_set]
      split
      next hslot =>
        have hget : s.store.registers[t'.slot] = s.store.registers[t.slot] :=
          congrArg (fun i : RegSlot => s.store.registers[i]) hslot.symm
        have hold := hc t' ht' hlive'
        rw [hget] at hold
        obtain ⟨_, hpair'⟩ := hold.resolve_left hns
        exact .inr ⟨hstands hlive, hsame.1.symm.trans (hpair.1.symm.trans hpair'.1),
          hsame.2.symm.trans (hpair.2.symm.trans hpair'.2)⟩
      next => exact hc t' ht' hlive'
  next => exact ⟨hb, hc⟩

theorem committable_foldl {targets : List Target} (amount : Nat) {s : State}
    (hs : Committable targets s) : Committable targets (targets.foldl (commitTarget amount) s) := by
  suffices h : ∀ ts : List Target, (∀ t ∈ ts, t ∈ targets) → ∀ u, Committable targets u →
      Committable targets (ts.foldl (commitTarget amount) u) from h targets (fun _ h => h) s hs
  intro ts
  induction ts with
  | nil => exact fun _ _ hu => hu
  | cons t ts ih =>
    intro hmem u hu
    exact ih (fun t' ht' => hmem t' (List.mem_cons_of_mem _ ht')) _
      (committable_commitTarget amount (hmem t List.mem_cons_self) hu)

theorem committable_of_laws {e : Increment} {targets : List Target} {s : State}
    (h : s.engine = .applying e targets) (ht : TargetLaw s) (hb : BindingLaw s) :
    Committable targets s := by
  refine ⟨hb, fun t hmem hlive => ?_⟩
  rcases ht t (by rw [h]; exact hmem) with heq | hsus
  · rw [heq]; exact .inr ⟨.inl hlive, rfl, rfl⟩
  · exact .inl hsus

theorem bindingLaw_completeApplication {e : Increment} {targets : List Target} {s : State}
    (h : s.engine = .applying e targets) (ht : TargetLaw s) (hb : BindingLaw s) :
    BindingLaw (completeApplication e targets s) := by
  have hc := (committable_foldl e.amount (committable_of_laws h ht hb)).1
  have ht := (applicationTold_acts s e targets s).bindingLaw hc
  rw [completeApplication_eq]
  exact bindingLaw_of_registers rfl ht

/-! ### The other steps: R6 -/

theorem bindingLaw_completeClose {c : CurrentClose} {b : Building} {s : State}
    (he : s.engine = .closing) (hs : BindingLaw s) : BindingLaw (completeClose c b s) :=
  have ht : BindingLaw (closeTold c b s) := (closeTold_spec c b he).2.bindingLaw hs
  (completeClose_acts c b s).bindingLaw (bindingLaw_of_registers rfl ht)

theorem bindingLaw_enterDrain {s : State} (hs : BindingLaw s) : BindingLaw (enterDrain s) := by
  have hf : BindingLaw (freeAllSlots s) := (freeAllSlots_acts s s).bindingLaw hs
  refine (enterDrain_acts s).bindingLaw (bindingLaw_of_registers ?_ hf)
  unfold drained resolveReopen
  split <;> rfl

/-- Every register of the factory store is FREE. -/
theorem bindingLaw_coldStart (s : State) : BindingLaw (coldStart s) := by
  intro i j _ hi
  have hfree : (coldStart s).store.registers[i].state = .free :=
    congrArg RegisterRec.state (get_replicate 32 freeRegister i)
  rw [hfree] at hi
  exact hi.elim (nomatch ·) (nomatch ·)

theorem bindingLaw_restoreStored (pfail : Bool) {s : State} (hs : BindingLaw s) :
    BindingLaw (restoreStored pfail s) := by
  have hb : BindingLaw (restoreBlocks s) := (restoreBlocks_acts s s).bindingLaw hs
  have hr : BindingLaw (restoreSteps s) := by
    rw [restoreSteps_eq]
    generalize restoreBlocks s = b at hb
    have hd : BindingLaw
        (if b.store.mode = .run then partialEnd (woken b) else clearInterval (woken b)) := by
      split
      next => exact bindingLaw_of_registers (s := b) rfl hb
      next => exact bindingLaw_of_registers (s := b) rfl hb
    generalize (if b.store.mode = .run then partialEnd (woken b) else clearInterval (woken b)) = d
      at hd
    refine bindingLaw_of_registers ?_ hd
    unfold restoreOverdue
    split <;> rfl
  rcases restoreStored_cases pfail s with ⟨_, heq⟩ | hacts
  · rw [heq]
    generalize restoreSteps s = u at hr
    exact bindingLaw_enterDrain (bindingLaw_of_registers rfl hr)
  · exact (hacts s).bindingLaw hr

theorem bindingLaw_restored (pfail : Bool) {s : State} (hs : BindingLaw s) :
    BindingLaw (restored pfail s) := by
  unfold restored
  split
  next => exact bindingLaw_restoreStored pfail hs
  next =>
    split
    next => exact bindingLaw_of_registers (s := coldStart s) rfl (bindingLaw_coldStart s)
    next => exact bindingLaw_restoreStored false (bindingLaw_coldStart s)

theorem bindingLaw_verifyStore {s : State} (hs : BindingLaw s) : BindingLaw (verifyStore s) := by
  unfold verifyStore
  split
  next => exact hs
  next => exact bindingLaw_coldStart s

theorem RowStep.bindingLaw {s t : State} {i : Instr} (h : RowStep s i t)
    (hi : i ≠ .lossOfBothSupplies) (ht : TargetLaw s) (hs : BindingLaw s) : BindingLaw t := by
  cases h with
  | acts h => exact h.bindingLaw hs
  | applied h => exact bindingLaw_completeApplication h ht hs
  | closed he hc hb => exact bindingLaw_completeClose he hs
  | drained h => exact bindingLaw_enterDrain (bindingLaw_of_registers (s := s) rfl hs)
  | retained h => exact bindingLaw_of_registers (s := s) rfl hs
  | restored pfail h => exact bindingLaw_restored pfail hs
  | poweredUp h ht =>
    cases ht
    rw [if_pos h]
    have hv := bindingLaw_verifyStore (s := { s with prescaler := ⟨0, 0, []⟩, retainDuration := 0 })
      (bindingLaw_of_registers (s := s) rfl hs)
    exact bindingLaw_of_registers rfl hv
  | lost => exact absurd rfl hi

/-! ### The other steps: the targets -/

theorem targetLaw_completeClose {c : CurrentClose} {b : Building} {s : State}
    (he : s.engine = .closing) (hs : Coherent s) : TargetLaw (completeClose c b s) := by
  obtain ⟨hf, hacts⟩ := closeTold_spec c b he
  have hw : Working s → Awake s := awake_of_working hs.1
  have happ : Coherent (appendRecord b.bytes s) := hs
  have hC : Coherent (closeTold c b s) := hacts.coherent hs hw happ
  have heng : (closeTold c b s).engine = .closing := by
    unfold CloseFrame at hf; rw [hf]; exact he
  have hended : TargetLaw (closeEnded c.cause (closeTold c b s)) := by
    refine targetLaw_of_none ?_
    show targetsInFlight (if c.cause = .setup then Engine.halted else .ready) = []
    split <;> rfl
  refine (completeClose_acts c b s).targetLaw hs (fun h => ?_) (coherent_closeEnded c.cause heng hC)
    hended
  have hsup : (closeEnded c.cause (closeTold c b s)).supply = s.supply := hacts.supply
  unfold Awake
  rw [hsup]
  exact hw h

theorem targetLaw_enterDrain {s : State} (h : s.supply = .runSupply) (hC : Coherent s)
    (hs : TargetLaw s) : TargetLaw (enterDrain s) := by
  have hacts := freeAllSlots_acts s s
  have hd := coherent_drained (hacts.supply.trans h) (hacts.coherent_self hC)
  have ht : TargetLaw (freeAllSlots s) := hacts.targetLaw_self hC hs
  refine (enterDrain_acts s).targetLaw_self hd ?_
  generalize freeAllSlots s = u at ht
  have hframe : (drained u).engine = u.engine ∧ (drained u).store.registers = u.store.registers := by
    unfold drained resolveReopen
    split <;> exact ⟨rfl, rfl⟩
  unfold TargetLaw
  rw [hframe.1, hframe.2]
  exact ht

theorem restoreSteps_engine (s : State) : targetsInFlight (restoreSteps s).engine = [] := by
  unfold restoreSteps
  generalize restoreOverdue (restoreDemand (restoreBlocks s)) = u
  show targetsInFlight (if u.store.mode = .run then Engine.ready else .halted) = []
  split <;> rfl

theorem targetLaw_restoreStored (pfail : Bool) {s : State} (h : Dark s) :
    TargetLaw (restoreStored pfail s) := by
  have ht : TargetLaw (restoreSteps s) := targetLaw_of_none (restoreSteps_engine s)
  have hC := coherent_restoreSteps h
  rcases restoreStored_cases pfail s with ⟨_, heq⟩ | hacts
  · rw [heq]
    have hrun := restoreSteps_supply s
    generalize restoreSteps s = u at ht hC hrun
    exact targetLaw_enterDrain (s := { u with pfailAsserted := true }) hrun hC ht
  · exact (hacts (restoreSteps s)).targetLaw_self hC ht

theorem targetLaw_restored (pfail : Bool) {s : State} (h : Dark s) : TargetLaw (restored pfail s) := by
  unfold restored
  split
  next => exact targetLaw_restoreStored pfail h
  next =>
    split
    next => exact targetLaw_of_none (congrArg targetsInFlight h.engine)
    next => exact targetLaw_restoreStored false h.coldStart

theorem RowStep.targetLaw {s t : State} {i : Instr} (h : RowStep s i t) (hC : Coherent s)
    (hs : TargetLaw s) : TargetLaw t := by
  cases h with
  | acts h => exact h.targetLaw_self hC hs
  | applied h => exact targetLaw_of_none rfl
  | closed he hc hb => exact targetLaw_completeClose he hC
  | drained h => exact targetLaw_enterDrain (s := { s with pfailAsserted := true }) h hC hs
  | retained h => exact targetLaw_of_none rfl
  | restored pfail h =>
    refine targetLaw_restored pfail (hC.dark ?_ ?_) <;>
      rcases h with h | h <;> rw [h] <;> exact (nomatch ·)
  | poweredUp h ht =>
    cases ht
    rw [if_pos h]
    have hd : Dark s := hC.dark (by rw [h]; exact (nomatch ·)) (by rw [h]; exact (nomatch ·))
    refine targetLaw_of_none ?_
    have hv : (verifyStore { s with prescaler := ⟨0, 0, []⟩, retainDuration := 0 }).engine
        = .halted := by
      unfold verifyStore
      split <;> exact hd.engine
    exact congrArg targetsInFlight hv
  | lost h ht =>
    cases ht
    rw [if_neg h]
    exact targetLaw_of_none rfl

/-- Settles O59: R6 holds on, with the targets in their slots and the volatile state coherent. -/
theorem bindingLawKept : Obligations.BindingLawKept := by
  rintro s t hf ⟨hC, ht, hb⟩ h
  rcases rowStep_of_step h with rfl | ⟨i, rest, hp, hr⟩
  · exact ⟨hC, ht, hb⟩
  · refine ⟨hr.coherent (s := { s with pending := rest }) hC,
      hr.targetLaw (s := { s with pending := rest }) hC ht, hr.bindingLaw ?_ ht hb⟩
    rintro rfl
    simp [losesStore, hp] at hf

end Sys2Proof.Machine
end

section
/-! The commands and the frame that brings them: a block answers alike before and after its frame begins, so that
a command that runs at once leaves what its block leaves and the answer on its port (R147 to R149). -/

namespace Sys2Proof.Machine

/-! ### What a frame's begin leaves -/

@[simp] theorem openFrame_store (p : PortId) (s : State) : (openFrame p s).store = s.store := rfl

@[simp] theorem openFrame_slots (p : PortId) (s : State) : (openFrame p s).slots = s.slots := rfl

@[simp] theorem openFrame_claim (p : PortId) (s : State) : (openFrame p s).claim = s.claim := rfl

@[simp] theorem openFrame_closeState (p : PortId) (s : State) :
    (openFrame p s).closeState = s.closeState := rfl

@[simp] theorem openFrame_inputs (p : PortId) (s : State) : (openFrame p s).inputs = s.inputs := rfl

@[simp] theorem slotCount_openFrame (p q : PortId) (s : State) :
    slotCount (openFrame q s) p = slotCount s p := rfl

@[simp] theorem lowestFree_openFrame (q : PortId) (s : State) :
    lowestFree (openFrame q s) = lowestFree s := rfl

@[simp] theorem inhibitActive_openFrame (q : PortId) (s : State) :
    inhibitActive (openFrame q s) = inhibitActive s := rfl

@[simp] theorem postQuantity_openFrame (q : PortId) (s : State) (args : List Byte) :
    postQuantity (openFrame q s) args = postQuantity s args := rfl

/-- A reply with a frame begun on a port. -/
def framedReply (p : PortId) (r : Reply) : Reply := ⟨openFrame p r.state, r.result⟩

/-! ### Notices on a port where a frame begins -/

theorem joinQueue_framed (n : Notice) (q : Port) : joinQueue n (framed q) = framed (joinQueue n q) := by
  unfold joinQueue framed
  dsimp only
  split <;> rfl

theorem get_map_ports (f : Port → Port) (s : State) (q : PortId) : (s.ports.map f)[q] = f s.ports[q] :=
  get_map ..

/-- Two states that agree but for their ports agree where their ports do. -/
theorem eq_of_ports {s t : State} (h : t = { s with ports := t.ports })
    (hp : ∀ q : PortId, t.ports[q] = s.ports[q]) : t = s := by
  have hv : t.ports = s.ports := Vector.ext fun i hi => hp ⟨i, hi⟩
  rw [h, hv]

theorem raise_openFrame (p : PortId) (n : Notice) (s : State) :
    raise n (openFrame p s) = openFrame p (raise n s) := by
  refine eq_of_ports ?_ fun q => ?_
  · rw [raise_frame, raise_frame n s]; rfl
  · rw [raise_port, openFrame_eq_onPort, openFrame_eq_onPort]
    by_cases hq : p = q
    · subst hq
      rw [onPort_port_self, onPort_port_self, raise_port]
      show (if maskEnables s.ports[p].mask n.kind = true ∧ queueing s = true then
        joinQueue n (framed s.ports[p]) else framed s.ports[p]) = _
      rw [joinQueue_framed, apply_ite framed]
    · rw [onPort_port_ne hq, onPort_port_ne hq, raise_port]
      rfl

theorem verifyRegister_openFrame (p : PortId) (f : FoundAt) (s : State) (i : RegSlot) :
    verifyRegister f (openFrame p s) i = openFrame p (verifyRegister f s i) := by
  unfold verifyRegister
  dsimp only
  have hcheck : ∀ r, checkMatches (openFrame p s) i r = checkMatches s i r := fun _ => rfl
  simp only [openFrame_store, hcheck, apply_ite (openFrame p), ← raise_openFrame]
  rfl


/-! ### Blocks where a frame begins -/

theorem framedReply_ite (p : PortId) (c : Prop) [Decidable c] (r r' : Reply) :
    framedReply p (if c then r else r') = if c then framedReply p r else framedReply p r' :=
  apply_ite (framedReply p) c r r'

theorem onPort_openFrame (p : PortId) {s : State} (f : Port → Port)
    (hf : ∀ q, f (framed q) = framed (f q)) :
    onPort p f (openFrame p s) = openFrame p (onPort p f s) := by
  rw [openFrame_eq_onPort, openFrame_eq_onPort, onPort_onPort, onPort_onPort]
  exact onPort_congr (hf _)

theorem doReadRegister_openFrame (p : PortId) (args : List Byte) (s : State) :
    doReadRegister p args (openFrame p s) = framedReply p (doReadRegister p args s) := by
  unfold doReadRegister
  split
  next => rfl
  next => simp only [verifyRegister_openFrame]; rfl

theorem doSetRegisterOptions_openFrame (p : PortId) (args : List Byte) (s : State) :
    doSetRegisterOptions p args (openFrame p s) = framedReply p (doSetRegisterOptions p args s) := by
  unfold doSetRegisterOptions
  split
  next => simp only [verifyRegister_openFrame, framedReply_ite]; rfl
  next => rfl

theorem doSetTariff_openFrame (p : PortId) (args : List Byte) (s : State) :
    doSetTariff p args (openFrame p s) = framedReply p (doSetTariff p args s) := by
  have hchange : ∀ t, tariffChange t .command (some p) (openFrame p s)
      = openFrame p (tariffChange t .command (some p) s) := fun t => by
    simp only [tariffChange, ← raise_openFrame]; rfl
  unfold doSetTariff
  split
  next => rfl
  next => simp only [hchange, openFrame_store, ← apply_ite (openFrame p)]; rfl

theorem doSetNoticeMask_openFrame (p : PortId) (args : List Byte) (s : State) :
    doSetNoticeMask p args (openFrame p s) = framedReply p (doSetNoticeMask p args s) := by
  unfold doSetNoticeMask
  rw [framedReply_ite, onPort_openFrame p (fun q => { q with mask := (arg args 0).setWidth 6 })
    fun _ => rfl]
  rfl

theorem freeSlotsOf_openFrame (p q : PortId) (s : State) :
    freeSlotsOf p (openFrame q s) = openFrame q (freeSlotsOf p s) := by
  unfold freeSlotsOf
  generalize ([0, 1, 2, 3] : List SnapId) = is
  induction is generalizing s with
  | nil => rfl
  | cons i is ih =>
    rw [List.foldl_cons, List.foldl_cons, ← ih]
    refine congrArg (fun u => List.foldl _ u is) ?_
    rw [apply_ite (openFrame q)]
    rfl

theorem resetPort_openFrame (p : PortId) (s : State) :
    resetPort (openFrame p s) p = openFrame p (resetPort s p) := by
  unfold resetPort
  rw [onPort_openFrame p (fun q =>
    { q with notices := [], attn := false, overrun := false, mask := 0x3F#6, lastResult := none })
    fun _ => rfl]
  simp only [freeSlotsOf_openFrame]
  rfl

theorem doReadNotices_framed (p : PortId) (args : List Byte) (s : State) :
    doReadNotices p args (openFrame p s) = framedReply p (doReadNotices p args s) := by
  rw [doReadNotices_openFrame, doReadNotices_eq]
  rfl

theorem doReadLastResult_openFrame (p : PortId) (args : List Byte) (s : State) :
    doReadLastResult p args (openFrame p s) = framedReply p (doReadLastResult p args s) := by
  unfold doReadLastResult
  rw [openFrame_eq_onPort, onPort_port_self]
  rfl

theorem doReadLog_openFrame (p : PortId) (args : List Byte) (s : State) :
    doReadLog p args (openFrame p s) = framedReply p (doReadLog p args s) := by
  unfold doReadLog
  simp only [openFrame_store]
  split
  next back offset _ _ =>
    rw [framedReply_ite]
    cases s.store.log.entries[s.store.log.entries.length - 1 - back]? with
    | none => rfl
    | some e => simp only [framedReply_ite]; rfl
  next => rfl

theorem doSnapshotOpen_openFrame (p : PortId) (args : List Byte) (s : State) :
    doSnapshotOpen p args (openFrame p s) = framedReply p (doSnapshotOpen p args s) := by
  unfold doSnapshotOpen
  split
  next =>
    rw [framedReply_ite, lowestFree_openFrame]
    cases lowestFree s <;> rfl
  next => rfl

theorem doSnapshotRead_openFrame (p : PortId) (args : List Byte) (s : State) :
    doSnapshotRead p args (openFrame p s) = framedReply p (doSnapshotRead p args s) := by
  unfold doSnapshotRead
  split
  next i first count _ _ _ =>
    rw [framedReply_ite, openFrame_slots]
    cases s.slots[i] with
    | free | pending => rfl
    | held => simp only [framedReply_ite]; rfl
  next => rfl

theorem doSnapshotRenew_openFrame (p : PortId) (args : List Byte) (s : State) :
    doSnapshotRenew p args (openFrame p s) = framedReply p (doSnapshotRenew p args s) := by
  unfold doSnapshotRenew
  split
  next => rfl
  next i _ =>
    rw [framedReply_ite, openFrame_slots]
    cases s.slots[i] <;> rfl

theorem doDefineChain_openFrame (p : PortId) (args : List Byte) (s : State) :
    doDefineChain p args (openFrame p s) = framedReply p (doDefineChain p args s) := by
  unfold doDefineChain
  split
  next => rfl
  next =>
    split
    next => rfl
    next => rw [framedReply_ite]; rfl
  next => rfl

theorem doSetTariffSource_openFrame (p : PortId) (args : List Byte) (s : State) :
    doSetTariffSource p args (openFrame p s) = framedReply p (doSetTariffSource p args s) := by
  unfold doSetTariffSource
  simp only [openFrame_store]
  split
  next =>
    split
    next => rfl
    next => rfl
  next => rfl

theorem doReadConfiguration_openFrame (p : PortId) (args : List Byte) (s : State) :
    doReadConfiguration p args (openFrame p s) = framedReply p (doReadConfiguration p args s) := by
  unfold doReadConfiguration
  rw [openFrame_store]
  split <;> rfl

theorem doClaimSetup_openFrame (p : PortId) (args : List Byte) (s : State) :
    doClaimSetup p args (openFrame p s) = framedReply p (doClaimSetup p args s) := by
  unfold doClaimSetup
  rw [openFrame_claim]
  split
  next => rfl
  next => rw [framedReply_ite]; rfl

theorem doCommit_openFrame (p : PortId) (args : List Byte) (s : State) :
    doCommit p args (openFrame p s) = framedReply p (doCommit p args s) := by
  unfold doCommit
  rw [openFrame_store]
  split <;> rfl

theorem doPostIncrement_openFrame (p : PortId) (args : List Byte) (s : State) :
    doPostIncrement p args (openFrame p s) = framedReply p (doPostIncrement p args s) := by
  unfold doPostIncrement
  rw [postQuantity_openFrame]
  split
  next => rw [framedReply_ite]; rfl
  next => rfl

theorem doReadPulseInput_openFrame (p : PortId) (args : List Byte) (s : State) :
    doReadPulseInput p args (openFrame p s) = framedReply p (doReadPulseInput p args s) := by
  unfold doReadPulseInput
  split
  next _ clear _ _ => cases clear <;> rfl
  next => rfl

/-- A command is answered alike before and after its frame begins on its port. -/
theorem dispatched_openFrame (p : PortId) (c : Command) (s : State) :
    dispatched p c (openFrame p s) = framedReply p (dispatched p c s) := by
  obtain ⟨k, args⟩ := c
  cases k
  case readRegister => exact doReadRegister_openFrame p args s
  case setRegisterOptions => exact doSetRegisterOptions_openFrame p args s
  case setTariff => exact doSetTariff_openFrame p args s
  case setNoticeMask => exact doSetNoticeMask_openFrame p args s
  case readNotices => exact doReadNotices_framed p args s
  case readLastResult => exact doReadLastResult_openFrame p args s
  case readLog => exact doReadLog_openFrame p args s
  case snapshotOpen => exact doSnapshotOpen_openFrame p args s
  case snapshotRead => exact doSnapshotRead_openFrame p args s
  case snapshotRenew => exact doSnapshotRenew_openFrame p args s
  case defineChain => exact doDefineChain_openFrame p args s
  case setTariffSource => exact doSetTariffSource_openFrame p args s
  case readConfiguration => exact doReadConfiguration_openFrame p args s
  case claimSetup => exact doClaimSetup_openFrame p args s
  case commit => exact doCommit_openFrame p args s
  case postIncrement => exact doPostIncrement_openFrame p args s
  case readPulseInput => exact doReadPulseInput_openFrame p args s
  case portReset => simp only [dispatched, doPortReset, resetPort_openFrame]; rfl
  case requestClose =>
    simp only [dispatched, doRequestClose, framedReply_ite]; rfl
  case reopen => simp only [dispatched, doReopen, framedReply_ite]; rfl
  case readStatus | releaseSetup | clearLog | unknown => rfl
  case readDemand | setCloseOptions | setRights =>
    simp only [dispatched, doReadDemand, doSetCloseOptions, doSetRights]
    split <;> rfl
  case snapshotRelease | unbindRegister | clearRegister | acceptRegister =>
    simp only [dispatched, doSnapshotRelease, doUnbindRegister, doClearRegister, doAcceptRegister]
    split
    · rfl
    · simp only [framedReply_ite]; rfl
  case defineQuantity | bindRegister | definePulseInput | defineDemandChannel =>
    simp only [dispatched, doDefineQuantity, doBindRegister, doDefinePulseInput,
      doDefineDemandChannel]
    split
    · simp only [framedReply_ite]; rfl
    · rfl

end Sys2Proof.Machine
end

section
/-! A command that runs at once, from its request to the answer on its port, and the codes of its arguments. -/

namespace Sys2Proof.Machine

/-! ### From the request to the answer -/

/-- A command row takes the command of its request; an unknown command's where its code is in no table. -/
theorem exec_of_requestOf {i : Instr} {p : PortId} {k : CommandKind} {args : List Byte}
    (h : requestOf i = some (p, k, args)) (hk : known k = true ∨ i.wellFormed = true) (s : State) :
    exec i s = .next (takeCommand p k args s) := by
  cases i <;> cases h
  case unknownCommand code =>
    have hcode : kindOfCode code = .unknown code := by
      rcases hk with hk | hk
      · exact nomatch hk
      · simp only [Instr.wellFormed, Bool.and_eq_true, beq_iff_eq] at hk
        exact hk.2
    show Host.Outcome.next (takeCommand p (kindOfCode code) args s) = _
    rw [hcode]
  all_goals rfl

/-- The argument lengths of the code table are below the limit of a request. -/
theorem le_lengthLimit_of_allowed {k : CommandKind} {n : Nat} (h : lengthAllowed k n = true) :
    n ≤ lengthLimit := by
  cases k <;> simp only [lengthAllowed, beq_iff_eq, decide_eq_true_eq, Bool.false_eq_true] at h <;>
    unfold lengthLimit <;> omega

/-- A command that passes the common checks and that its own block answers at once. -/
theorem exec_answered {i : Instr} {p : PortId} {k : CommandKind} {args : List Byte} {s t : State}
    {st : Status} {data : List Byte} (hi : requestOf i = some (p, k, args)) (h : Takes p s)
    (hk : k ≠ .postIncrement) (hc : commonRefusal p ⟨k, args⟩ s = none)
    (hw : ¬(takenByEngine k = true ∧ capturing s = true) ∨ st ≠ .ok)
    (hd : dispatched p ⟨k, args⟩ s = answer t st data) (he : t.ports[p].execution = none) :
    exec i s = .next (afterAnswer p k st data t) := by
  obtain ⟨hknown, hlen, _⟩ := commonRefusal_eq_none_iff.mp hc
  have hd' : dispatched p ⟨k, args⟩ (openFrame p s) = answer (openFrame p t) st data := by
    rw [dispatched_openFrame, hd]; rfl
  rw [exec_of_requestOf hi (.inl hknown), takeCommand_answered h (le_lengthLimit_of_allowed hlen) hc hw hd',
    giveResult_openFrame args st data he hk]

/-- A command that a common check turns away. -/
theorem exec_refused {i : Instr} {p : PortId} {k : CommandKind} {args : List Byte} {s : State}
    {st : Status} (hi : requestOf i = some (p, k, args)) (h : Takes p s)
    (hk : k ≠ .postIncrement) (hknown : known k = true) (hl : args.length ≤ lengthLimit)
    (hc : commonRefusal p ⟨k, args⟩ s = some st) :
    exec i s = .next (afterAnswer p k st [] s) := by
  rw [exec_of_requestOf hi (.inl hknown), takeCommand_refused h hl hc hk]

/-- A command that needs no mode, no right and no claim (R163). -/
def isFree (k : CommandKind) : Bool :=
  match k with
  | .readStatus | .readRegister | .readLastResult | .readNotices | .setNoticeMask | .portReset
  | .readLog | .readDemand | .readPulseInput | .snapshotRead | .snapshotRenew | .snapshotRelease
  | .readConfiguration => true
  | .postIncrement | .setTariff | .requestClose | .snapshotOpen | .claimSetup | .releaseSetup
  | .defineQuantity | .bindRegister | .unbindRegister | .setRegisterOptions | .clearRegister
  | .acceptRegister | .definePulseInput | .defineDemandChannel | .defineChain | .setTariffSource
  | .setCloseOptions | .setRights | .clearLog | .commit | .reopen | .unknown _ => false

theorem commonRefusal_free {p : PortId} {k : CommandKind} {args : List Byte} {s : State}
    (hk : isFree k = true) (hl : lengthAllowed k args.length = true) (hs : s.supply ≠ .drain) :
    commonRefusal p ⟨k, args⟩ s = none := by
  refine commonRefusal_eq_none_iff.mpr ⟨?_, hl, hs, ?_, ?_⟩ <;> revert hk <;> cases k <;>
    simp [isFree, known, modeFits, modeAllowed, rightRefusal]

theorem isFree_not_engine {k : CommandKind} (hk : isFree k = true) :
    k ≠ .postIncrement ∧ takenByEngine k = false := by
  revert hk
  cases k <;> simp [isFree, takenByEngine, isEdit]

theorem exec_free {i : Instr} {p : PortId} {k : CommandKind} {args : List Byte} {s t : State}
    {st : Status} {data : List Byte} (hi : requestOf i = some (p, k, args)) (h : Takes p s)
    (hk : isFree k = true) (hl : lengthAllowed k args.length = true)
    (hd : dispatched p ⟨k, args⟩ s = answer t st data)
    (he : t.ports[p].execution = s.ports[p].execution) :
    exec i s = .next (afterAnswer p k st data t) := by
  have ⟨_, hnone, hsupply⟩ := h
  obtain ⟨hpost, hengine⟩ := isFree_not_engine hk
  exact exec_answered hi h hpost (commonRefusal_free hk hl hsupply)
    (.inl fun ⟨h, _⟩ => by rw [hengine] at h; exact nomatch h) hd (he.trans hnone)

theorem commonRefusal_edit {p : PortId} {k : CommandKind} {args : List Byte} {s : State}
    (hk : isEdit k = true ∨ k = .commit ∨ k = .releaseSetup)
    (hl : lengthAllowed k args.length = true) (hs : s.supply ≠ .drain)
    (hm : s.store.mode = .setup) (hc : s.claim = some p) : commonRefusal p ⟨k, args⟩ s = none := by
  have hmode : modeFits k s = true ∧ rightRefusal k p s = none ∧ known k = true := by
    rcases hk with hk | rfl | rfl
    · revert hk
      cases k <;> simp [isEdit, modeFits, modeAllowed, rightRefusal, known, hm, hc]
    · simp [modeFits, modeAllowed, rightRefusal, known, hm, hc]
    · simp [modeFits, modeAllowed, rightRefusal, known, hm, hc]
  obtain ⟨hfits, hright, hknown⟩ := hmode
  exact commonRefusal_eq_none_iff.mpr ⟨hknown, hl, hs, hfits, hright⟩

/-- An edit of a port with the claim, in SETUP and with no capture in progress. -/
theorem exec_edit {i : Instr} {p : PortId} {k : CommandKind} {args : List Byte} {s t : State}
    {st : Status} {data : List Byte} (hi : requestOf i = some (p, k, args)) (h : Edits p s)
    (hk : isEdit k = true) (hl : lengthAllowed k args.length = true)
    (hd : dispatched p ⟨k, args⟩ s = answer t st data)
    (he : t.ports[p].execution = s.ports[p].execution) :
    exec i s = .next (afterAnswer p k st data t) := by
  obtain ⟨htakes, hmode, hclaim, hcap⟩ := h
  have ⟨_, hnone, hsupply⟩ := htakes
  have hpost : k ≠ .postIncrement := by rintro rfl; exact nomatch hk
  exact exec_answered hi htakes hpost (commonRefusal_edit (.inl hk) hl hsupply hmode hclaim)
    (.inl fun ⟨_, h⟩ => by rw [hcap] at h; exact nomatch h) hd (he.trans hnone)

/-! ### Codes of arguments -/

theorem toNat_byte {n : Nat} (h : n < 256) : (byte n).toNat = n := by
  unfold byte
  rw [BitVec.toNat_ofNat]
  exact Nat.mod_eq_of_lt h

@[simp] theorem arg_cons_zero (b : Byte) (bs : List Byte) : arg (b :: bs) 0 = b := rfl

@[simp] theorem arg_cons_succ (b : Byte) (bs : List Byte) (n : Nat) :
    arg (b :: bs) (n + 1) = arg bs n := rfl

theorem finOfByte_eq_none {n : Nat} {b : Byte} (h : n ≤ b.toNat) : finOfByte n b = none :=
  dif_neg (Nat.not_lt.mpr h)

theorem finOfByte_byte {n : Nat} (hn : n ≤ 256) (i : Fin n) : finOfByte n (byte i.val) = some i := by
  have h : (byte i.val).toNat = i.val := toNat_byte (i.isLt.trans_le hn)
  unfold finOfByte
  rw [dif_pos (by rw [h]; exact i.isLt)]
  exact congrArg some (Fin.ext h)

@[simp] theorem slotOfByte_byte (i : RegSlot) : finOfByte 32 (byte i.val) = some i :=
  finOfByte_byte (by decide) i

@[simp] theorem quantityOfByte_byte (q : Fin 8) : finOfByte 8 (byte q.val) = some q :=
  finOfByte_byte (by decide) q

@[simp] theorem channelOfByte_byte (c : Fin 4) : finOfByte 4 (byte c.val) = some c :=
  finOfByte_byte (by decide) c

@[simp] theorem portOfByte_byte (p : Fin 3) : finOfByte 3 (byte p.val) = some p :=
  finOfByte_byte (by decide) p

@[simp] theorem boolOfByte_boolCode (b : Bool) : boolOfByte (boolCode b) = some b := by
  cases b <;> rfl

theorem boolOfByte_eq_none {b : Byte} (h : 2 ≤ b.toNat) : boolOfByte b = none := by
  unfold boolOfByte
  rw [if_neg, if_neg] <;> (rintro rfl; revert h; decide)

@[simp] theorem tariffOfByte_tariffCode (t : Tariff) : tariffOfByte (tariffCode t) = some t := by
  cases t <;> rfl

@[simp] theorem policyOfByte_byte (pol : Policy) : policyOfByte (byte (policyNat pol)) = some pol := by
  cases pol <;> rfl

@[simp] theorem sourceOfByte_byte (m : SourceMode) : sourceOfByte (byte (sourceNat m)) = some m := by
  cases m <;> rfl

@[simp] theorem lineModeOfByte_byte (m : LineMode) :
    lineModeOfByte (byte (lineModeNat m)) = some m := by
  cases m <;> rfl

@[simp] theorem chainTickOfByte_byte (t : ChainTick) :
    chainTickOfByte (byte (chainTickNat t)) = some t := by
  cases t <;> rfl

@[simp] theorem selectorOfByte_byte (sel : Fin 5) :
    selectorOfByte (byte sel.val) = some (BitVec.ofNat 3 sel.val) := by
  revert sel; decide

theorem inRange_eq_some {lo hi n : Nat} (h1 : lo ≤ n) (h2 : n ≤ hi) : inRange lo hi n = some n :=
  if_pos ⟨h1, h2⟩

theorem inRange_eq_none {lo hi n : Nat} (h : n < lo ∨ hi < n) : inRange lo hi n = none :=
  if_neg (by omega)

theorem inRange_byte {lo hi n : Nat} (h1 : lo ≤ n) (h2 : n ≤ hi) (hhi : hi < 256) :
    inRange lo hi (byte n).toNat = some n := by
  rw [toNat_byte (by omega), inRange_eq_some h1 h2]

end Sys2Proof.Machine
end

section
/-! The queue of commands, reset, and the reads of the state. -/

namespace Sys2Proof.Machine

/-- Settles O1, by what `step` does with an empty and with a non-empty queue. -/
theorem stepRunsFrontCommandOrIdles : Obligations.StepRunsFrontCommandOrIdles := by
  refine ⟨fun _ _ _ => rfl, fun s h => ?_⟩
  unfold step
  rw [h]

/-! ### Reset -/

theorem reset_register (i : RegSlot) : State.reset.store.registers[i] = freeRegister :=
  get_replicate 32 freeRegister i

theorem reset_port (p : PortId) : State.reset.ports[p]
    = ⟨none, none, none, [⟨.restored, 1, 0, 0, 0, 0⟩], true, false, 0x3F#6, .quiet⟩ := by
  rw [show State.reset.ports = Vector.replicate 3 _ from rfl, get_replicate]
  rfl

/-- The signature does not cover the cold marker. -/
theorem reset_signatureOk : signatureOk State.reset.store = true :=
  signatureOk_writeSignature factoryItems

/-- Settles O2, field by field of the reset state. -/
theorem resetHoldsColdStartValues : Obligations.ResetHoldsColdStartValues := by
  refine ⟨by decide, ⟨rfl, rfl, rfl, rfl, rfl, rfl, rfl, rfl, rfl, ?_, rfl, rfl, rfl,
    reset_signatureOk, rfl⟩, ?_, reset_register, ?_, ?_, ?_, ?_⟩
  · exact fun f => by cases f <;> rfl
  · exact fun q => get_replicate 8 undefinedQuantity q
  · exact fun c => by revert c; decide
  · exact fun n => by revert n; decide
  · exact fun i => get_replicate 4 SnapSlot.free i
  · intro p
    rw [reset_port]
    exact ⟨rfl, rfl, rfl, rfl, rfl, rfl, rfl⟩

theorem reset_bindingLaw : BindingLaw State.reset := by
  intro i j _ hi
  rw [reset_register] at hi
  exact hi.elim (nomatch ·) (nomatch ·)

/-- Settles O3, each law at the reset state. -/
theorem resetKeepsEveryLaw : Obligations.ResetKeepsEveryLaw := by
  refine ⟨⟨fun p => ?_, by decide, by decide, by decide, fun n => factoryStore_pulse n, by decide⟩,
    ⟨by decide, by decide, by decide, ⟨by decide, fun c hc => nomatch hc⟩, by decide, by decide,
      by decide⟩, reset_bindingLaw, targetLaw_of_none rfl⟩
  rw [reset_port]
  decide

/-! ### Reads -/

theorem assigned_eq_decide (c : Chain) : assigned c = decide (c.state ≠ .unassigned) := by
  cases h : c.state <;> simp [assigned, h]

theorem chainFnOfByte_eq_none {b : Byte} (h : 2 < b.toNat) : chainFnOfByte b = none := by
  unfold chainFnOfByte
  rw [if_neg, if_neg, if_neg] <;> (rintro rfl; revert h; decide)

/-- An item or an index out of its range (R177). -/
theorem configurationItem_eq_none (st : Store) {item index : Byte}
    (h : 6 < item.toNat ∨ (item.toNat ≤ 1 ∧ 7 < index.toNat) ∨ (item.toNat = 2 ∧ 3 < index.toNat)
      ∨ ((item.toNat = 3 ∨ item.toNat = 6) ∧ 2 < index.toNat)
      ∨ ((item.toNat = 4 ∨ item.toNat = 5) ∧ 0 < index.toNat)) :
    configurationItem st item index = none := by
  have hzero : 0 < index.toNat → index ≠ 0 := by rintro h rfl; exact absurd h (by decide)
  unfold configurationItem
  split
  next hi => rw [finOfByte_eq_none (by omega)]; rfl
  next hi => rw [finOfByte_eq_none (by omega)]; rfl
  next hi => rw [finOfByte_eq_none (by omega)]; rfl
  next hi => rw [chainFnOfByte_eq_none (by omega)]; rfl
  next hi => exact if_neg (hzero (by omega))
  next hi => exact if_neg (hzero (by omega))
  next hi => rw [finOfByte_eq_none (by omega)]; rfl
  next => rfl

theorem exec_readConfiguration_ok {p : PortId} {s : State} (h : Takes p s) {item index : Byte}
    {fields : List Byte} (hf : configurationItem s.store item index = some fields) :
    exec (.readConfiguration p [item, index]) s
      = .next (afterAnswer p .readConfiguration .ok ([item, index] ++ fields) s) := by
  refine exec_free rfl h rfl rfl ?_ rfl
  show (match configurationItem s.store item index with
    | some fields => answer s .ok ([item, index] ++ fields)
    | none => refuse s .badArgument) = _
  rw [hf]

theorem exec_readConfiguration_bad {p : PortId} {s : State} (h : Takes p s) {item index : Byte}
    (hf : configurationItem s.store item index = none) :
    exec (.readConfiguration p [item, index]) s
      = .next (afterAnswer p .readConfiguration .badArgument [] s) := by
  refine exec_free rfl h rfl rfl ?_ rfl
  show (match configurationItem s.store item index with
    | some fields => answer s .ok ([item, index] ++ fields)
    | none => refuse s .badArgument) = _
  rw [hf]
  rfl

/-- Settles O5, command by command and item by item. -/
theorem readsAnswerFromTheState : Obligations.ReadsAnswerFromTheState := by
  intro p s h
  refine ⟨exec_free rfl h rfl rfl rfl rfl, ?_, fun c => ?_, ?_, fun item index hbad => ?_⟩
  · refine exec_free rfl h rfl rfl ?_ rfl
    simp only [dispatched, doReadLastResult]
    cases s.ports[p].lastResult <;> rfl
  · refine exec_free rfl h rfl rfl ?_ rfl
    simp only [dispatched, doReadDemand, arg_cons_zero, channelOfByte_byte]
  · refine ⟨fun q => ?_, fun n => ?_, fun c => ?_, fun f => ?_, ?_, ?_, fun q => ?_⟩ <;>
      refine exec_readConfiguration_ok h ?_
    · show (finOfByte 8 (byte q.val)).map _ = _
      rw [quantityOfByte_byte]; rfl
    · show (finOfByte 8 (byte n.val)).map _ = _
      rw [quantityOfByte_byte]; rfl
    · show (finOfByte 4 (byte c.val)).map _ = _
      rw [channelOfByte_byte]; rfl
    · cases f <;> (rw [← assigned_eq_decide]; rfl)
    · rfl
    · rfl
    · show (finOfByte 3 (byte q.val)).map _ = _
      rw [portOfByte_byte]; rfl
  · exact exec_readConfiguration_bad h (configurationItem_eq_none s.store hbad)

end Sys2Proof.Machine
end

section
/-! Frames: what the bytes of a request decode to, the frames that bring no command, the common checks, and the
command that waits behind another. -/

namespace Sys2Proof.Machine

/-! ### Decoding a request -/

theorem kindOfCode_kindCode {k : CommandKind} (h : known k = true) : kindOfCode (kindCode k) = k := by
  cases k
  case unknown => exact nomatch h
  all_goals rfl

/-- What a well-formed command row says of its request. -/
theorem request_of_wellFormed {i : Instr} {p : PortId} {k : CommandKind} {args : List Byte}
    (hw : i.wellFormed = true) (hi : requestOf i = some (p, k, args)) :
    args.length ≤ lengthLimit ∧ kindOfCode (kindCode k) = k ∧ commandRow p k args = i := by
  cases i <;> cases hi
  case unknownCommand code =>
    simp only [Instr.wellFormed, Bool.and_eq_true, beq_iff_eq] at hw
    exact ⟨of_decide_eq_true hw.1, hw.2, rfl⟩
  all_goals exact ⟨of_decide_eq_true hw, kindOfCode_kindCode rfl, rfl⟩

/-- Settles O4: the request is the code, the length, the arguments and their check byte, and no more. -/
theorem decodeOfRequestIsTheCommand : Obligations.DecodeOfRequestIsTheCommand := by
  intro i p k args hw hi
  obtain ⟨hlen, hkind, hrow⟩ := request_of_wellFormed hw hi
  have hbyte : (byte args.length).toNat = args.length := by
    unfold lengthLimit at hlen
    exact toNat_byte (by omega)
  have hrequest : requestBytes k args = kindCode k :: byte args.length
      :: (args ++ [crc8 (kindCode k :: byte args.length :: args)]) := rfl
  rw [hrequest, decodeFrame, hbyte, if_neg (Nat.not_lt.mpr hlen), List.getElem?_concat_length]
  dsimp only
  rw [List.take_left, if_pos rfl, hkind, hrow]

/-! ### A command that a common check turns away -/

/-- A command whose port has none in execution enters execution as its frame ends, in drain too. -/
theorem takeCommand_of_free {p : PortId} {s : State} (hl : listening s = true)
    (he : s.ports[p].execution = none) (k : CommandKind) {args : List Byte}
    (hlen : args.length ≤ lengthLimit) :
    takeCommand p k args s = runOne p ⟨⟨k, args⟩, true⟩ (openFrame p s) := by
  unfold takeCommand
  rw [if_pos hl]
  dsimp only
  rw [if_neg (Nat.not_lt.mpr hlen), if_pos]
  rw [openFrame_execution he]
  rfl

theorem runOne_refused {p : PortId} {ex : Execution} {s : State} {st : Status}
    (hc : commonRefusal p ex.command s = some st) : runOne p ex s = giveResult p ex st [] s := by
  unfold runOne runCommand
  rw [hc]
  rfl

theorem takeCommand_turned {p : PortId} {s : State} (hl : listening s = true)
    (he : s.ports[p].execution = none) {k : CommandKind} {args : List Byte}
    (hlen : args.length ≤ lengthLimit) {st : Status} (hc : commonRefusal p ⟨k, args⟩ s = some st) :
    takeCommand p k args s = giveResult p ⟨⟨k, args⟩, true⟩ st [] (openFrame p s) := by
  rw [takeCommand_of_free hl he k hlen]
  exact runOne_refused hc

/-- Only PORT RESET's OK, and nothing of READ LAST RESULT, is not recorded. -/
theorem recorded_of_ne_ok {k : CommandKind} {st : Status} (hst : st ≠ .ok) :
    recorded k st = (k != .readLastResult) := by
  have h : (st == Status.ok) = false := beq_false_of_ne hst
  unfold recorded
  rw [h, Bool.and_false]
  exact Bool.and_true _

theorem refusedWith_of_commonRefusal {i : Instr} {p : PortId} {k : CommandKind} {args : List Byte}
    {s : State} (hw : i.wellFormed = true) (hi : requestOf i = some (p, k, args))
    (hl : listening s = true) (he : s.ports[p].execution = none) {st : Status} (hst : st ≠ .ok)
    (hc : commonRefusal p ⟨k, args⟩ s = some st) : refusedWith i p k args st s := by
  obtain ⟨hlen, _⟩ := request_of_wellFormed hw hi
  refine ⟨if recorded k st then
    some ⟨kindCode k, resultTag ⟨k, args⟩, st, s.store.applicationCounter⟩
    else s.ports[p].lastResult, ?_, fun hk => ?_, fun hk => ⟨resultTag ⟨k, args⟩, ?_, ?_, ?_⟩⟩
  · rw [exec_of_requestOf hi (.inr hw), takeCommand_turned hl he hlen hc, giveResult,
      openFrame_eq_onPort, onPort_onPort]
    refine congrArg _ (onPort_congr ?_)
    have he' : s.ports[p.val].execution = none := he
    simp [framed, he']
  · rw [recorded_of_ne_ok hst, hk]; rfl
  · rw [recorded_of_ne_ok hst, if_pos (bne_iff_ne.mpr hk)]
  · exact fun hp => if_neg hp
  · exact fun hp h6 => (if_pos hp).trans (if_pos h6)

/-- Settles O10: each check is made with the earlier ones passed. -/
theorem commonChecksInOrder : Obligations.CommonChecksInOrder := by
  intro i p k args s hw hi hk hl he
  have turned : ∀ {st : Status}, st ≠ .ok → commonRefusal p ⟨k, args⟩ s = some st →
      refusedWith i p k args st s := fun hst hc => refusedWith_of_commonRefusal hw hi hl he hst hc
  have passed : ∀ {st : Option Status}, lengthAllowed k args.length = true → s.supply ≠ .drain →
      (modeFits k s = true → rightRefusal k p s = st) → modeFits k s = true →
      commonRefusal p ⟨k, args⟩ s = st := by
    intro st hlen hs hr hm
    simp [commonRefusal, hk, hlen, hs, hm, hr hm]
  refine ⟨fun hlen => turned (nomatch ·) ?_, fun hlen hs => turned (nomatch ·) ?_,
    fun hlen hs hm => turned (nomatch ·) ?_, fun hlen hs hm hedit hclaim => turned (nomatch ·) ?_,
    fun hlen hs hm hright => turned (nomatch ·) ?_⟩
  · simp [commonRefusal, hk, hlen]
  · simp [commonRefusal, hk, hlen, hs]
  · simp [commonRefusal, hk, hlen, hs, modeFits, hm]
  · refine passed hlen hs (fun _ => ?_) ?_
    · rcases hedit with hedit | rfl | rfl
      · revert hedit
        cases k <;> simp [isEdit, rightRefusal, hclaim]
      · exact if_neg hclaim
      · exact if_neg hclaim
    · rcases hedit with hedit | rfl | rfl
      · revert hedit
        cases k <;> simp [isEdit, modeFits, modeAllowed, hm]
      · simp [modeFits, modeAllowed, hm]
      · simp [modeFits, modeAllowed, hm]
  · rcases hright with ⟨rfl, hr⟩ | ⟨rfl, hr⟩ | ⟨rfl | rfl, hr⟩ <;>
      refine passed hlen hs (fun _ => ?_) (by simp [modeFits, hm]) <;>
      simp only [rightRefusal, hr] <;> rfl

/-! ### Frames without a command -/

theorem drivenByte_waiting_response {s : State} {p : PortId} {r : Response} (hl : listening s = true)
    (hr : s.ports[p].wire = .response r) :
    drivenByte s p .waiting = some 0xA5
      ∧ ∀ rest, drivenByte s p (.sending rest) = some (rest.headD 0xFF#8) := by
  unfold drivenByte
  simp only [phaseIn_of_listening hl, hr]
  exact ⟨rfl, fun _ => trivial⟩

theorem flagsByte_eq (s : State) (p : PortId) : flagsByte s p
    = byte ((if s.ports[p].notices = [] then 0 else 1) + (if s.ports[p].overrun then 2 else 0)
        + (match s.store.mode with
          | .run => 0
          | .setup => 4
          | .enteringSetup => 8)) := by
  unfold flagsByte
  cases s.ports[p].notices <;> cases s.ports[p].overrun <;> cases s.store.mode <;> rfl

theorem responseBytes_eq {s : State} {p : PortId} {r : Response}
    (hr : s.ports[p].wire = .response r) : responseBytes s p
      = some (0xA5#8 :: ([statusCode r.status, flagsByte s p, byte r.data.length] ++ r.data
        ++ [crc8 ([statusCode r.status, flagsByte s p, byte r.data.length] ++ r.data)])) := by
  unfold responseBytes
  rw [hr]
  rfl

/-- Settles O8, by the frame that is taken and by what the port then drives. -/
theorem framesWithoutACommand : Obligations.FramesWithoutACommand := by
  intro p s hl
  have hphase := phaseIn_of_listening hl
  have hwire : ∀ w, setWire p w (openFrame p s) = onPort p (fun q => { framed q with wire := w }) s :=
    fun w => by rw [setWire, openFrame_eq_onPort, onPort_onPort]
  refine ⟨fun code args hw he => ?_, ?_, ?_, ?_, rfl, ?_, ?_, hphase, fun phase rest => ⟨rfl, rfl, ?_⟩,
    fun hwait => ?_, fun r hr => ?_⟩
  · have hi : requestOf (.unknownCommand p code args) = some (p, .unknown code, args) := rfl
    obtain ⟨hlen, _⟩ := request_of_wellFormed hw hi
    rw [exec_of_requestOf hi (.inr hw), takeCommand_turned (st := .unknownCommand) hl he hlen rfl,
      giveResult_openFrame (k := .unknown code) args _ _ he (nomatch ·)]
  · show Host.Outcome.next (if listening s then _ else _) = _
    rw [if_pos hl, hwire]
  · show Host.Outcome.next (if listening s then _ else _) = _
    rw [if_pos hl]
    rfl
  · show Host.Outcome.next (if listening s then _ else _) = _
    rw [if_pos hl, hwire]
  · unfold drivenByte
    rw [hphase]
    cases s.ports[p].wire <;> rfl
  · unfold phaseAfterByte; rw [hphase]
  · show drivenBytes p (phaseIn s phase) rest = _
    rw [hphase]
  · unfold drivenByte phaseAfterByte responseBytes
    simp only [hphase, hwait]
    exact ⟨rfl, trivial⟩
  · obtain ⟨hstart, hrest⟩ := drivenByte_waiting_response hl hr
    refine ⟨hstart, ?_, fun b rest => ⟨hrest _, ?_⟩, hrest _, ?_⟩
    · unfold phaseAfterByte
      simp only [hphase, responseBytes_eq hr, flagsByte_eq]
      cases s.store.mode <;> rfl
    · unfold phaseAfterByte; rw [hphase]; rfl
    · unfold phaseAfterByte; rw [hphase]; rfl

/-- Settles O9: the response that stands on the port says whether it carried notices. -/
theorem lostNoticesSetOverrun : Obligations.LostNoticesSetOverrun := by
  intro p data s hw
  have hexec : exec (.readNoticesResponseLost p) s = .next (onPort p (fun q => { q with
      overrun := q.overrun || carriesNotices .readNotices .ok data, wire := .quiet }) s) := by
    show Host.Outcome.next _ = _
    rw [hw]
  rw [hexec]
  refine ⟨fun h => ?_, fun h => ?_⟩
  · have hc : carriesNotices .readNotices .ok data = true := bne_iff_ne.mpr h
    simp only [hc, Bool.or_true]
  · have hc : carriesNotices .readNotices .ok data = false := by
      rw [carriesNotices, h]; rfl
    simp only [hc, Bool.or_false]

/-! ### The command that waits -/

theorem framed_execution_isNone (q : Port) : (framed q).execution.isNone = q.execution.isNone :=
  Option.isNone_map

theorem framed_waiting_isSome (q : Port) : (framed q).waiting.isSome = q.waiting.isSome :=
  Option.isSome_map

theorem takeCommand_of_busy {p : PortId} {s : State} (hl : listening s = true)
    (he : s.ports[p].execution ≠ none) (k : CommandKind) {args : List Byte}
    (hlen : args.length ≤ lengthLimit) :
    takeCommand p k args s = holdWaiting p ⟨⟨k, args⟩, true⟩ (openFrame p s) := by
  obtain ⟨ex, hex⟩ := Option.ne_none_iff_exists'.mp he
  unfold takeCommand
  rw [if_pos hl]
  dsimp only
  rw [if_neg (Nat.not_lt.mpr hlen), if_neg]
  rw [openFrame_eq_onPort, onPort_port_self, framed_execution_isNone, hex]
  exact (nomatch ·)

theorem takeWaiting_stays {p : PortId} {s : State}
    (h : s.ports[p].execution ≠ none ∨ s.ports[p].waiting = none) : takeWaiting s p = s := by
  unfold takeWaiting
  split
  next he hw =>
    rcases h with h | h
    · exact absurd he h
    · rw [h] at hw; exact nomatch hw
  next => rfl

theorem takeWaiting_runs {p : PortId} {s : State} {w : Execution}
    (he : s.ports[p].execution = none) (hw : s.ports[p].waiting = some w) :
    takeWaiting s p = runOne p w (onPort p (fun q => { q with waiting := none }) s) := by
  unfold takeWaiting
  rw [he, hw]

/-- A command that runs as its block answers it, at once or not. -/
theorem runOne_of_dispatched {p : PortId} {ex : Execution} {s : State}
    (hc : commonRefusal p ex.command s = none)
    (hw : takenByEngine ex.command.kind = false ∨ capturing s = false
      ∨ passes (dispatched p ex.command s) = false) :
    runCommand p ex.command s = dispatched p ex.command s := by
  unfold runCommand
  rw [hc]
  refine if_neg fun ⟨he, hcap, hpass⟩ => ?_
  rcases hw with hw | hw | hw
  · rw [he] at hw; exact nomatch hw
  · rw [hcap] at hw; exact nomatch hw
  · rw [hpass] at hw; exact nomatch hw

/-- Settles O11, by whether a command waits already, and by the answer of the one in execution. -/
theorem secondFrameWaits : Obligations.SecondFrameWaits := by
  refine ⟨fun i p k args s hw hi hl he => ?_, fun p s => ⟨takeWaiting_stays, fun w he hwait => ?_⟩⟩
  · obtain ⟨hlen, _⟩ := request_of_wellFormed hw hi
    rw [exec_of_requestOf hi (.inr hw), takeCommand_of_busy hl he k hlen]
    unfold holdWaiting
    rw [openFrame_eq_onPort, onPort_port_self, framed_waiting_isSome]
    refine ⟨fun hnone => ?_, fun hsome => ?_⟩
    · rw [if_neg (by rw [hnone]; exact (nomatch ·)), onPort_onPort]
    · obtain ⟨w, hw⟩ := Option.ne_none_iff_exists'.mp hsome
      rw [if_pos (by rw [hw]; rfl)]
  · simp only [takeWaiting_runs he hwait]
    refine ⟨fun st hc => runOne_refused hc, fun t st data hc hnow hd => ?_, fun t hc hd => ?_,
      fun t data hc hengine hcap hd => ?_⟩
    · have hrun := runOne_of_dispatched (ex := w) hc (hnow.imp_right (Or.imp_right fun hst => by
        rw [hd]; exact not_passes_answer t hst data))
      unfold runOne
      rw [hrun, hd]
      rfl
    · have hrun := runOne_of_dispatched (ex := w) hc (.inr (.inr (by rw [hd]; rfl)))
      unfold runOne
      rw [hrun, hd]
    · have hrun : runCommand p w.command (onPort p (fun q => { q with waiting := none }) s)
          = keepWaiting (onPort p (fun q => { q with waiting := none }) s) := by
        unfold runCommand
        rw [hc]
        exact if_pos ⟨hengine, hcap, by rw [hd]; rfl⟩
      unfold runOne
      rw [hrun]
      rfl

end Sys2Proof.Machine
end

section
/-! Slots freed in a row, for a port or for all: which slots are free then, which requests wait on, and what
becomes of the capture in progress (R121, R130, R131, R158). -/

namespace Sys2Proof.Machine

/-! ### The capture in progress -/

/-- The engine with its capture withdrawn where the slot it captures for is one of those named. -/
def withdrawnIf (b : SnapId → Bool) : Engine → Engine
  | .capturing j w copies stamp => .capturing j (w || b j) copies stamp
  | .halted => .halted
  | .ready => .ready
  | .applying e targets => .applying e targets
  | .closing => .closing

theorem withdrawnIf_withdrawnIf (b c : SnapId → Bool) (e : Engine) :
    withdrawnIf b (withdrawnIf c e) = withdrawnIf (fun j => c j || b j) e := by
  cases e with
  | capturing j w copies stamp => simp only [withdrawnIf, Bool.or_assoc]
  | halted | ready | applying | closing => rfl

theorem withdrawnIf_false {b : SnapId → Bool} (h : ∀ j, b j = false) (e : Engine) :
    withdrawnIf b e = e := by
  cases e with
  | capturing j w copies stamp => simp only [withdrawnIf, h, Bool.or_false]
  | halted | ready | applying | closing => rfl

theorem withdrawnIf_congr {b c : SnapId → Bool} (h : ∀ j, b j = c j) (e : Engine) :
    withdrawnIf b e = withdrawnIf c e := by rw [funext h]

/-- R121 for one slot. -/
theorem freeSlot_engine_eq (s : State) (i : SnapId) :
    (freeSlot s i).engine = withdrawnIf (· == i) s.engine := by
  unfold freeSlot withdrawCapture
  dsimp only
  cases he : s.engine with
  | capturing j w copies stamp =>
    by_cases hj : j = i
    · simp [withdrawnIf, hj]
    · simp [withdrawnIf, hj]
  | halted | ready | applying | closing => rfl

/-! ### Several slots -/

/-- The slots of a list that meet a condition freed, in order. -/
def freeWhere (P : SnapSlot → Bool) (is : List SnapId) (s : State) : State :=
  is.foldl (fun s i => if P s.slots[i] = true then freeSlot s i else s) s

theorem freeSlotsOf_eq (p : PortId) (s : State) :
    freeSlotsOf p s = freeWhere (fun x => slotHolder x == some p) [0, 1, 2, 3] s := by
  unfold freeSlotsOf freeWhere
  simp only [beq_iff_eq]

theorem freeAllSlots_eq (s : State) : freeAllSlots s = freeWhere (fun _ => true) [0, 1, 2, 3] s := rfl

/-- Whether a slot of a list meets the condition, as it stood before any was freed. -/
def freedBy (P : SnapSlot → Bool) (is : List SnapId) (s : State) (j : SnapId) : Bool :=
  is.contains j && P s.slots[j]

theorem freedBy_cons (P : SnapSlot → Bool) (i : SnapId) (is : List SnapId) (s : State) (j : SnapId) :
    freedBy P (i :: is) s j = ((j == i && P s.slots[j]) || freedBy P is s j) := by
  rw [freedBy, freedBy, List.contains_cons, Bool.and_or_distrib_right]

/-- What one turn of `freeWhere` leaves. -/
theorem freeWhere_one (P : SnapSlot → Bool) (i : SnapId) (s : State) :
    let u := if P s.slots[i] = true then freeSlot s i else s
    (∀ j : SnapId, u.slots[j] = if (j == i && P s.slots[j]) = true then .free else s.slots[j])
    ∧ u.captureQueue = s.captureQueue.filter (fun j => !(j == i && P s.slots[j]))
    ∧ u.engine = withdrawnIf (fun j => j == i && P s.slots[j]) s.engine := by
  dsimp only
  by_cases hP : P s.slots[i] = true
  · have heq : ∀ j : SnapId, (j == i && P s.slots[j]) = (j == i) := by
      intro j
      by_cases hj : j = i
      · subst hj; rw [hP, Bool.and_true]
      · rw [beq_false_of_ne hj, Bool.false_and]
    rw [if_pos hP]
    refine ⟨fun j => ?_, ?_, ?_⟩
    · rw [heq]
      by_cases hj : j = i
      · subst hj; rw [freeSlot_slot_self, beq_self_eq_true]; rfl
      · rw [freeSlot_slot_ne s (Ne.symm hj), beq_false_of_ne hj]; rfl
    · simp only [heq]; rfl
    · rw [freeSlot_engine_eq, withdrawnIf_congr heq]
  · have heq : ∀ j : SnapId, (j == i && P s.slots[j]) = false := by
      intro j
      by_cases hj : j = i
      · subst hj; rw [Bool.not_eq_true] at hP; rw [hP, Bool.and_false]
      · rw [beq_false_of_ne hj, Bool.false_and]
    rw [if_neg hP]
    refine ⟨fun j => ?_, ?_, ?_⟩
    · rw [heq]; rfl
    · simp only [heq]; simp
    · rw [withdrawnIf_false heq]

theorem freeWhere_spec (P : SnapSlot → Bool) (is : List SnapId) (hnd : is.Nodup) (s : State) :
    (∀ j : SnapId, (freeWhere P is s).slots[j]
      = if freedBy P is s j = true then .free else s.slots[j])
    ∧ (freeWhere P is s).captureQueue = s.captureQueue.filter (fun j => !freedBy P is s j)
    ∧ (freeWhere P is s).engine = withdrawnIf (freedBy P is s) s.engine := by
  induction is generalizing s with
  | nil =>
    refine ⟨fun j => rfl, ?_, (withdrawnIf_false (fun j => rfl) _).symm⟩
    simp [freeWhere, freedBy]
  | cons i is ih =>
    obtain ⟨hi, hnd⟩ := List.nodup_cons.mp hnd
    obtain ⟨hslot, hqueue, heng⟩ := freeWhere_one P i s
    generalize hu : (if P s.slots[i] = true then freeSlot s i else s) = u at hslot hqueue heng
    have hfree : ∀ j, freedBy P is u j = freedBy P is s j := by
      intro j
      unfold freedBy
      by_cases hj : j = i
      · have : is.contains j = false := by
          rw [hj, ← Bool.not_eq_true, List.contains_iff_mem]
          exact hi
        rw [this, Bool.false_and, Bool.false_and]
      · rw [hslot, beq_false_of_ne hj, Bool.false_and]; rfl
    obtain ⟨ihslot, ihqueue, iheng⟩ := ih hnd u
    have hstep : freeWhere P (i :: is) s = freeWhere P is u := by rw [← hu]; rfl
    rw [hstep]
    refine ⟨fun j => ?_, ?_, ?_⟩
    · rw [ihslot, hfree, freedBy_cons, hslot]
      cases freedBy P is s j <;> simp
    · rw [ihqueue, hqueue, List.filter_filter]
      refine List.filter_congr fun j _ => ?_
      rw [hfree, freedBy_cons, Bool.not_or, Bool.and_comm]
    · rw [iheng, heng, withdrawnIf_withdrawnIf]
      exact withdrawnIf_congr (fun j => by rw [hfree, freedBy_cons]) _

theorem freedBy_all (P : SnapSlot → Bool) (s : State) (j : SnapId) :
    freedBy P [0, 1, 2, 3] s j = P s.slots[j] := by
  have h : ([0, 1, 2, 3] : List SnapId).contains j = true := by revert j; decide
  rw [freedBy, h, Bool.true_and]

/-- A port's slots freed (R158). -/
theorem freeSlotsOf_spec (p : PortId) (s : State) :
    (∀ j : SnapId, (freeSlotsOf p s).slots[j]
      = if slotHolder s.slots[j] = some p then .free else s.slots[j])
    ∧ (freeSlotsOf p s).captureQueue
      = s.captureQueue.filter (fun j => slotHolder s.slots[j] != some p)
    ∧ (freeSlotsOf p s).engine = withdrawnIf (fun j => slotHolder s.slots[j] == some p) s.engine := by
  obtain ⟨hslot, hqueue, heng⟩ :=
    freeWhere_spec (fun x => slotHolder x == some p) [0, 1, 2, 3] (by decide) s
  rw [freeSlotsOf_eq]
  refine ⟨fun j => ?_, ?_, ?_⟩
  · rw [hslot, freedBy_all]; simp only [beq_iff_eq]
  · rw [hqueue]; simp only [freedBy_all]; rfl
  · rw [heng]; exact withdrawnIf_congr (freedBy_all _ s) _

/-- Every slot freed (R130, R131). -/
theorem freeAllSlots_engine (s : State) :
    (freeAllSlots s).engine = withdrawnIf (fun _ => true) s.engine := by
  obtain ⟨_, _, heng⟩ := freeWhere_spec (fun _ => true) [0, 1, 2, 3] (by decide) s
  rw [freeAllSlots_eq, heng]
  exact withdrawnIf_congr (freedBy_all _ s) _

theorem freeAllSlots_frame (s : State) : freeAllSlots s = { s with
    slots := (freeAllSlots s).slots, captureQueue := (freeAllSlots s).captureQueue
    engine := (freeAllSlots s).engine } := by
  obtain ⟨slots, queue, engine, h⟩ := foldl_freeSlot_frame [0, 1, 2, 3] s
  rw [freeAllSlots, h]

theorem freeSlotsOf_frame_self (p : PortId) (s : State) : freeSlotsOf p s = { s with
    slots := (freeSlotsOf p s).slots, captureQueue := (freeSlotsOf p s).captureQueue
    engine := (freeSlotsOf p s).engine } := by
  obtain ⟨slots, queue, engine, h⟩ := freeSlotsOf_frame p s
  rw [h]

/-- Freeing slots sees no port. -/
theorem freeSlotsOf_withPorts (p : PortId) (v : Vector Port 3) (s : State) :
    freeSlotsOf p { s with ports := v } = { freeSlotsOf p s with ports := v } := by
  unfold freeSlotsOf
  generalize ([0, 1, 2, 3] : List SnapId) = is
  induction is generalizing s with
  | nil => rfl
  | cons i is ih =>
    rw [List.foldl_cons, List.foldl_cons, ← ih]
    refine congrArg (fun u => List.foldl _ u is) ?_
    exact (apply_ite (fun u : State => { u with ports := v }) (slotHolder s.slots[i] = some p)
      (freeSlot s i) s).symm

/-! ### One port reset -/

/-- A port as PORT RESET leaves it (R158). -/
def portCleared (q : Port) : Port :=
  { q with notices := [], attn := false, overrun := false, mask := 0x3F#6, lastResult := none }

/-- R158 in one piece: what the reset of a port leaves. -/
theorem resetPort_eq (s : State) (p : PortId) : resetPort s p = { s with
    ports := s.ports.set p (portCleared s.ports[p])
    slots := (freeSlotsOf p s).slots
    captureQueue := (freeSlotsOf p s).captureQueue
    engine := (freeSlotsOf p s).engine
    claim := if s.claim = some p then none else s.claim
    doneOwed := if (s.currentClose.bind (·.requester)) = some p then false else s.doneOwed
    reopen := s.reopen.map fun r => if r.requester = p then { r with owed := false } else r } := by
  have hports : freeSlotsOf p (onPort p portCleared s)
      = { freeSlotsOf p s with ports := s.ports.set p (portCleared s.ports[p]) } :=
    freeSlotsOf_withPorts p _ s
  show (fun u : State => { u with
    claim := if u.claim = some p then none else u.claim
    doneOwed := if (u.currentClose.bind (·.requester)) = some p then false else u.doneOwed
    reopen := u.reopen.map fun r : Reopen => if r.requester = p then { r with owed := false } else r })
    (freeSlotsOf p (onPort p portCleared s)) = _
  rw [hports, freeSlotsOf_frame_self p s]

end Sys2Proof.Machine
end

section
/-! The port commands that write a port, the register reads and edits, and the quantities (R2 to R8, R155,
R158). -/

namespace Sys2Proof.Machine

/-! ### The mask and PORT RESET -/

theorem doSetNoticeMask_small {p : PortId} {m : Byte} (h : m.toNat < 64) (s : State) :
    doSetNoticeMask p [m] s
      = answer (onPort p (fun q => { q with mask := m.setWidth 6 }) s) .ok [m] := if_pos h

/-- The answer on a port that the command itself has changed. -/
theorem afterAnswer_onPort (p : PortId) (k : CommandKind) (st : Status) (data : List Byte)
    (f : Port → Port) (s : State) : afterAnswer p k st data (onPort p f s)
      = onPort p (fun q => answered (f q) k st data s.store.applicationCounter) s := by
  unfold afterAnswer
  rw [onPort_onPort]
  rfl

theorem resetPort_execution (s : State) (p : PortId) :
    (resetPort s p).ports[p].execution = s.ports[p].execution := by
  rw [resetPort_eq]
  show (s.ports.set p (portCleared s.ports[p]))[p].execution = _
  rw [get_set_self]
  rfl

/-- Settles O7, by R158 in one piece. -/
theorem maskWrittenAndPortReset : Obligations.MaskWrittenAndPortReset := by
  intro p s h
  refine ⟨fun m hm => ?_, fun m hm => ?_, ?_⟩
  · have hd : dispatched p ⟨.setNoticeMask, [m]⟩ s
        = answer (onPort p (fun q => { q with mask := m.setWidth 6 }) s) .ok [m] :=
      doSetNoticeMask_small hm s
    rw [exec_free rfl h rfl rfl hd (by rw [onPort_port_self]), afterAnswer_onPort]
    rfl
  · exact exec_free rfl h rfl rfl (if_neg (Nat.not_lt.mpr hm)) rfl
  · obtain ⟨hslots, hqueue, heng⟩ := freeSlotsOf_spec p s
    refine ⟨_, exec_free (k := .portReset) rfl h rfl rfl rfl (resetPort_execution s p), ?_⟩
    rw [resetPort_eq, afterAnswer]
    refine ⟨?_, hslots, hqueue, ?_, rfl, rfl, rfl, rfl⟩
    · rw [onPort_ports]
      show (s.ports.set p _).set p (answered (s.ports.set p (portCleared s.ports[p]))[p] _ _ _ _) = _
      rw [get_set_self]
      exact Vector.set_set ..
    · show (freeSlotsOf p s).engine = _
      rw [heng]
      cases s.engine <;> rfl

end Sys2Proof.Machine
end

section
/-! Register reads and edits, and the quantities (R2, R6 to R8, R16, R17). -/

namespace Sys2Proof.Machine

/-! ### READ REGISTER -/

theorem dispatched_readRegister (p : PortId) (i : RegSlot) (s : State) :
    dispatched p ⟨.readRegister, [byte i.val]⟩ s
      = answer (verifyRegister .read s i) .ok (registerReport i
          (scaleOf s (verifyRegister .read s i).store.registers[i].quantity)
          (verifyRegister .read s i).store.registers[i] s.store.applicationCounter) := by
  simp only [dispatched, doReadRegister, arg_cons_zero, slotOfByte_byte, scaleOf,
    verifyRegister_store_quantities, verifyRegister_store_applicationCounter]

/-- A report has no check word. -/
theorem registerReport_withCheck (i : RegSlot) (k : Nat) (r : RegisterRec) (c : BitVec 16)
    (n : BitVec 32) : registerReport i k { r with check := c } n = registerReport i k r n := rfl

theorem not_matches {s : State} {i : RegSlot} {r : RegisterRec} (hfree : r.state ≠ .free)
    (hm : checkMatches s i r = false) : ¬(r.state = .free ∨ checkMatches s i r = true) := by
  rw [hm]
  exact fun h => h.elim hfree (nomatch ·)

theorem ne_free_and_suspect {r : RegisterRec} (h : r.state = .live ∨ r.state = .overflowed) :
    r.state ≠ .free ∧ r.state ≠ .suspect := by
  rcases h with h | h <;> rw [h] <;> exact ⟨(nomatch ·), (nomatch ·)⟩

theorem verifyRegister_of_mismatch (f : FoundAt) {s : State} {i : RegSlot}
    (h : s.store.registers[i].state = .live ∨ s.store.registers[i].state = .overflowed)
    (hm : checkMatches s i s.store.registers[i] = false) :
    verifyRegister f s i = raise (suspectNotice i s.store.registers[i] f)
      (putRegister i (markedSuspect s.store.registers[i]) s) := by
  obtain ⟨hfree, hsus⟩ := ne_free_and_suspect h
  unfold verifyRegister
  dsimp only
  rw [if_neg (not_matches hfree hm), if_neg hsus]

theorem verifyRegister_of_suspect (f : FoundAt) {s : State} {i : RegSlot}
    (h : s.store.registers[i].state = .suspect)
    (hm : checkMatches s i s.store.registers[i] = false) :
    verifyRegister f s i = putRegister i s.store.registers[i] s := by
  have hfree : s.store.registers[i].state ≠ .free := by rw [h]; exact (nomatch ·)
  unfold verifyRegister
  dsimp only
  rw [if_neg (not_matches hfree hm), if_pos h]

theorem raise_port_execution (n : Notice) (s : State) (p : PortId) :
    (raise n s).ports[p].execution = s.ports[p].execution := raise_execution n s p.val p.isLt

/-- Settles O12, by what the verification finds. -/
theorem readRegisterVerifiesAndReports : Obligations.ReadRegisterVerifiesAndReports := by
  intro p i s h
  have hd := dispatched_readRegister p i s
  refine ⟨fun hok => ?_, fun hbound hm => ?_, fun hsus hm => ?_⟩
  · rw [verifyRegister_of_matches .read s i hok] at hd
    exact exec_free rfl h rfl rfl hd rfl
  · rw [verifyRegister_of_mismatch .read hbound hm, raise_register, putRegister_register_self,
      registerReport_withCheck] at hd
    exact exec_free rfl h rfl rfl hd (raise_port_execution _ _ p)
  · rw [verifyRegister_of_suspect .read hsus hm, putRegister_register_self,
      registerReport_withCheck] at hd
    exact exec_free rfl h rfl rfl hd rfl

/-! ### DEFINE QUANTITY -/

theorem any_toList_eq_false_iff {α : Type} {n : Nat} (v : Vector α n) (f : α → Bool) :
    v.toList.any f = false ↔ ∀ i : Fin n, f v[i] = false := by
  rw [List.any_eq_false]
  refine ⟨fun h i => by simpa using h v[i] (by simp), fun h x hx => ?_⟩
  obtain ⟨i, hi, rfl⟩ := List.getElem_of_mem hx
  have hi' : i < n := by simpa using hi
  have := h ⟨i, hi'⟩
  simpa using this

theorem quantityInUse_eq_false_iff (st : Store) (q : Quantity) : quantityInUse st q = false ↔
    (∀ i : RegSlot, st.registers[i].state ≠ .free → st.registers[i].quantity ≠ q)
      ∧ (∀ n : InputId, st.pulseDefs[n].enabled = true → st.pulseDefs[n].quantity ≠ q)
      ∧ ∀ c : ChannelId, st.channels[c].quantity ≠ some q := by
  unfold quantityInUse
  rw [Bool.or_eq_false_iff, Bool.or_eq_false_iff, any_toList_eq_false_iff, any_toList_eq_false_iff,
    any_toList_eq_false_iff, and_assoc]
  simp only [Bool.and_eq_false_imp, bne_iff_ne, beq_eq_false_iff_ne]

theorem dispatched_defineQuantity (p : PortId) (q : Quantity) (defined : Bool) (k : Fin 4)
    (s : State) :
    dispatched p ⟨.defineQuantity, [byte q.val, boolCode defined, byte k.val]⟩ s
      = if quantityInUse s.store q then refuse s .conflict
        else answer (onConfiguration (fun st => { st with
          quantities := st.quantities.set q ⟨defined, if defined then k.val else 0⟩ }) s) .ok [] := by
  simp only [dispatched, doDefineQuantity, arg_cons_zero, arg_cons_succ, quantityOfByte_byte,
    boolOfByte_boolCode, channelOfByte_byte]

theorem doDefineQuantity_bad (p : PortId) {a b c : Byte} (s : State)
    (h : 8 ≤ a.toNat ∨ 2 ≤ b.toNat ∨ 4 ≤ c.toNat) :
    doDefineQuantity p [a, b, c] s = refuse s .badArgument := by
  unfold doDefineQuantity
  simp only [arg_cons_zero, arg_cons_succ]
  rcases h with h | h | h
  · rw [finOfByte_eq_none h]
  · rw [boolOfByte_eq_none h]; cases finOfByte 8 a <;> rfl
  · rw [finOfByte_eq_none h]; cases finOfByte 8 a <;> cases boolOfByte b <;> rfl

/-- Settles O13, by the checks of DEFINE QUANTITY in their order. -/
theorem defineQuantityWritesAnUnusedRecord : Obligations.DefineQuantityWritesAnUnusedRecord := by
  refine ⟨fun p a b c s h hbad => exec_edit rfl h rfl rfl (doDefineQuantity_bad p s hbad) rfl,
    fun p q defined k s h => ?_⟩
  have hd := dispatched_defineQuantity p q defined k s
  refine ⟨fun hunused => ?_, fun hused => ?_⟩
  · rw [(quantityInUse_eq_false_iff s.store q).mpr hunused] at hd
    exact exec_edit rfl h rfl rfl hd rfl
  · rw [← quantityInUse_eq_false_iff, Bool.not_eq_false] at hused
    rw [hused] at hd
    exact exec_edit rfl h rfl rfl hd rfl

/-! ### BIND REGISTER -/

theorem dispatched_bindRegister (p : PortId) (i : RegSlot) (q : Quantity) (sel : Fin 5) {d : Nat}
    (pol : Policy) (arch reset : Bool) (s : State) (h6 : 6 ≤ d) (h12 : d ≤ 12) :
    dispatched p ⟨.bindRegister, [byte i.val, byte q.val, byte sel.val, byte d,
        byte (policyNat pol), boolCode arch, boolCode reset]⟩ s
      = if s.store.quantities[q].defined = false then refuse s .badArgument
        else if s.store.registers[i].state ≠ .free then refuse s .conflict
        else if pairTaken s.store i q (BitVec.ofNat 3 sel.val) then refuse s .conflict
        else answer (putRegister i
          { freeRegister with
            state := .live, quantity := q, selector := BitVec.ofNat 3 sel.val
            digits := BitVec.ofNat 4 d, policy := pol, archive := arch, periodReset := reset } s)
          .ok [] := by
  simp only [dispatched, doBindRegister, arg_cons_zero, arg_cons_succ, slotOfByte_byte,
    quantityOfByte_byte, selectorOfByte_byte, inRange_byte h6 h12 (by decide), policyOfByte_byte,
    boolOfByte_boolCode]

/-- Settles O14, by the checks of BIND REGISTER in their order. -/
theorem bindRegisterStartsAtZero : Obligations.BindRegisterStartsAtZero := by
  intro p i q sel d pol arch reset s h h6 h12
  have hd := dispatched_bindRegister p i q sel pol arch reset s h6 h12
  refine ⟨fun hdef hfree hpair => ?_, fun hdef hused => ?_, fun hundef => ?_⟩
  · rw [if_neg (by rw [hdef]; exact (nomatch ·)), if_neg (not_not.mpr hfree),
      if_neg (by rw [pairTaken_eq_false_iff.mpr hpair]; exact (nomatch ·))] at hd
    exact exec_edit rfl h rfl rfl hd rfl
  · rw [if_neg (by rw [hdef]; exact (nomatch ·))] at hd
    refine exec_edit rfl h rfl rfl (hd.trans ?_) rfl
    rcases hused with hused | hpair
    · exact if_pos hused
    · rw [← pairTaken_eq_false_iff, Bool.not_eq_false] at hpair
      rw [if_pos hpair]
      exact ite_self _
  · rw [if_pos hundef] at hd
    exact exec_edit rfl h rfl rfl hd rfl

end Sys2Proof.Machine
end

section
/-! The edits of a bound register (R7, R8), and the arithmetic of an application (R10, R11). -/

namespace Sys2Proof.Machine

/-! ### The edits of one register -/

theorem canStandLive_iff (s : State) (i : RegSlot) : canStandLive s.store i = true ↔
    s.store.quantities[s.store.registers[i].quantity].defined = true
      ∧ s.store.registers[i].selector.toNat ≤ 4 ∧ 6 ≤ s.store.registers[i].digits.toNat
      ∧ s.store.registers[i].digits.toNat ≤ 12
      ∧ ∀ j : RegSlot, j ≠ i → s.store.registers[j].state ≠ .free →
          s.store.registers[j].quantity ≠ s.store.registers[i].quantity
            ∨ s.store.registers[j].selector ≠ s.store.registers[i].selector := by
  unfold canStandLive
  dsimp only
  rw [Bool.and_eq_true, Bool.and_eq_true, Bool.and_eq_true, decide_eq_true_eq, decide_eq_true_eq,
    Bool.not_eq_true', pairTaken_eq_false_iff, and_assoc, and_assoc, and_assoc]

theorem raise_putRegister (n : Notice) (i : RegSlot) (r : RegisterRec) (s : State) :
    raise n (putRegister i r s) = putRegister i r (raise n s) := by
  refine eq_of_ports ?_ fun q => ?_
  · rw [raise_frame, raise_frame n s]; rfl
  · rw [raise_port]
    exact (raise_port n s q).symm

theorem putRegister_putRegister (i : RegSlot) (r r' : RegisterRec) (s : State) :
    putRegister i r (putRegister i r' s) = putRegister i r s := by
  show setRegister i _ (setRegister i _ s) = setRegister i _ s
  simp only [setRegister, onStore, Vector.set_set]
  rfl

section
variable {p : PortId} {i : RegSlot} {s : State}

theorem exec_unbindRegister (h : Edits p s) :
    exec (.unbindRegister p [byte i.val]) s = .next (
      if s.store.registers[i].state = .free then afterAnswer p .unbindRegister .conflict [] s
      else afterAnswer p .unbindRegister .ok [] (setRegister i freeRegister s)) := by
  have hd : dispatched p ⟨.unbindRegister, [byte i.val]⟩ s
      = if s.store.registers[i].state = .free then refuse s .conflict
        else answer (setRegister i freeRegister s) .ok [] := by
    simp only [dispatched, doUnbindRegister, arg_cons_zero, slotOfByte_byte]
  split
  next hfree => rw [if_pos hfree] at hd; exact exec_edit rfl h rfl rfl hd rfl
  next hfree => rw [if_neg hfree] at hd; exact exec_edit rfl h rfl rfl hd rfl

theorem exec_clearRegister (h : Edits p s) :
    exec (.clearRegister p [byte i.val]) s = .next (
      if s.store.registers[i].state = .free
          ∨ (s.store.registers[i].state = .suspect ∧ canStandLive s.store i = false) then
        afterAnswer p .clearRegister .conflict [] s
      else afterAnswer p .clearRegister .ok []
        (putRegister i { zeroed s.store.registers[i] with state := .live } s)) := by
  have hd : dispatched p ⟨.clearRegister, [byte i.val]⟩ s
      = if s.store.registers[i].state = .free
          ∨ (s.store.registers[i].state = .suspect ∧ canStandLive s.store i = false) then
          refuse s .conflict
        else answer (putRegister i { zeroed s.store.registers[i] with state := .live } s) .ok [] := by
    simp only [dispatched, doClearRegister, arg_cons_zero, slotOfByte_byte]
  split
  next hc => rw [if_pos hc] at hd; exact exec_edit rfl h rfl rfl hd rfl
  next hc => rw [if_neg hc] at hd; exact exec_edit rfl h rfl rfl hd rfl

theorem exec_acceptRegister (h : Edits p s) :
    exec (.acceptRegister p [byte i.val]) s = .next (
      if s.store.registers[i].state ≠ .suspect ∨ canStandLive s.store i = false then
        afterAnswer p .acceptRegister .conflict [] s
      else afterAnswer p .acceptRegister .ok []
        (putRegister i { s.store.registers[i] with state := .live } s)) := by
  have hd : dispatched p ⟨.acceptRegister, [byte i.val]⟩ s
      = if s.store.registers[i].state ≠ .suspect ∨ canStandLive s.store i = false then
          refuse s .conflict
        else answer (putRegister i { s.store.registers[i] with state := .live } s) .ok [] := by
    simp only [dispatched, doAcceptRegister, arg_cons_zero, slotOfByte_byte]
  split
  next hc => rw [if_pos hc] at hd; exact exec_edit rfl h rfl rfl hd rfl
  next hc => rw [if_neg hc] at hd; exact exec_edit rfl h rfl rfl hd rfl

/-- A register with the options that SET REGISTER OPTIONS writes (R7). -/
def withOptions (pol : Policy) (arch reset : Bool) (r : RegisterRec) : RegisterRec :=
  { r with policy := pol, archive := arch, periodReset := reset }

theorem verifyRegister_port_execution (f : FoundAt) (s : State) (i : RegSlot) (p : PortId) :
    (verifyRegister f s i).ports[p].execution = s.ports[p].execution := by
  unfold verifyRegister
  dsimp only
  split
  next => rfl
  next =>
    split
    next => rfl
    next => exact raise_port_execution _ _ p

theorem exec_setRegisterOptions (h : Edits p s) (pol : Policy) (arch reset : Bool) :
    exec (.setRegisterOptions p [byte i.val, byte (policyNat pol), boolCode arch, boolCode reset]) s
      = .next (
      if s.store.registers[i].state = .free then
        afterAnswer p .setRegisterOptions .conflict [] s
      else afterAnswer p .setRegisterOptions .ok [] (putRegister i
        (withOptions pol arch reset (verifyRegister .edit s i).store.registers[i])
        (verifyRegister .edit s i))) := by
  have hd : dispatched p
      ⟨.setRegisterOptions, [byte i.val, byte (policyNat pol), boolCode arch, boolCode reset]⟩ s
      = if s.store.registers[i].state = .free then refuse s .conflict
        else answer (putRegister i
          (withOptions pol arch reset (verifyRegister .edit s i).store.registers[i])
          (verifyRegister .edit s i)) .ok [] := by
    simp only [dispatched, doSetRegisterOptions, arg_cons_zero, arg_cons_succ, slotOfByte_byte,
      policyOfByte_byte, boolOfByte_boolCode]
    rfl
  split
  next hfree => rw [if_pos hfree] at hd; exact exec_edit rfl h rfl rfl hd rfl
  next hfree =>
    rw [if_neg hfree] at hd
    exact exec_edit rfl h rfl rfl hd (verifyRegister_port_execution .edit s i p)

end

/-- A check word is computed without the one it replaces. -/
theorem putRegister_withCheck (i : RegSlot) (pol : Policy) (arch reset : Bool) (r : RegisterRec)
    (c : BitVec 16) (s : State) : putRegister i (withOptions pol arch reset { r with check := c }) s
      = putRegister i (withOptions pol arch reset r) s := rfl

/-- Settles O15, an equation for each edit of a register. -/
theorem registerEditsWriteTheirSlot : Obligations.RegisterEditsWriteTheirSlot := by
  intro p i pol arch reset s h r put stands unbind clear accept options
  have hstands : canStandLive s.store i = true ↔ stands := canStandLive_iff s i
  have hcannot : canStandLive s.store i = false ↔ ¬ stands := by
    rw [← hstands, Bool.not_eq_true]
  have hput : ∀ r' : RegisterRec, put r' = putRegister i r' s := fun _ => rfl
  refine ⟨fun hb => ?_, fun hf => ?_, fun hb => ?_, fun hc => ?_, fun hs hst => ?_, fun hc => ?_,
    fun hok => ?_, fun hb hm => ?_, fun hf => ?_⟩
  · exact (exec_unbindRegister h).trans (congrArg _ (if_neg hb))
  · exact (exec_unbindRegister h).trans (congrArg _ (if_pos hf))
  · refine (exec_clearRegister h).trans (congrArg _ (if_neg fun hc => ?_))
    rw [hcannot] at hc
    rcases hb with hb | hb | ⟨hb, hst⟩ <;> rcases hc with hc | ⟨hc, hnot⟩
    case inr.inr.inr => exact hnot hst
    all_goals exact nomatch hb.symm.trans hc
  · exact (exec_clearRegister h).trans (congrArg _ (if_pos (by rw [hcannot]; exact hc)))
  · refine (exec_acceptRegister h).trans (congrArg _ (if_neg fun hc => ?_))
    rw [hcannot] at hc
    exact hc.elim (fun hn => hn hs) fun hn => hn hst
  · exact (exec_acceptRegister h).trans (congrArg _ (if_pos (by rw [hcannot]; exact hc)))
  · have hfree : r.state ≠ .free := by
      rcases hok with hs | ⟨hf, _⟩
      · rw [hs]; exact (nomatch ·)
      · exact hf
    refine (exec_setRegisterOptions h pol arch reset).trans (congrArg _ ((if_neg hfree).trans ?_))
    refine congrArg _ ?_
    rw [hput]
    by_cases hm : checkMatches s i r = true
    · rw [verifyRegister_of_matches .edit s i (.inr hm)]; rfl
    · have hs : r.state = .suspect := hok.resolve_right fun h => hm h.2
      rw [verifyRegister_of_suspect .edit hs ((Bool.not_eq_true _).mp hm), putRegister_register_self,
        putRegister_withCheck, putRegister_putRegister]
      rfl
  · obtain ⟨hfree, _⟩ := ne_free_and_suspect hb
    refine (exec_setRegisterOptions h pol arch reset).trans (congrArg _ ((if_neg hfree).trans ?_))
    refine congrArg _ ?_
    rw [hput, verifyRegister_of_mismatch .edit hb hm, raise_register, putRegister_register_self,
      putRegister_withCheck, ← raise_putRegister, putRegister_putRegister]
    rfl
  · exact (exec_setRegisterOptions h pol arch reset).trans (congrArg _ (if_pos hf))

/-! ### WRAP and STOP -/

theorem capacity_pos (k : Nat) (r : RegisterRec) : 0 < capacity k r := Nat.pow_pos (by decide)

/-- Another total below the capacity is the register's total. -/
theorem registerTotal_withTotal_lt {k n : Nat} {r r' : RegisterRec} (hk : k ≤ 3)
    (hd : r.digits.toNat ≤ 12) (hn : n < capacity k r)
    (hv : heldValue r' = heldValue (withTotal k n r))
    (hr : heldResidue k r' = heldResidue k (withTotal k n r)) : registerTotal k r' = n := by
  rw [registerTotal, hv, hr]
  exact registerTotal_withTotal hk hd hn

/-- An application changes the value, the residue, the wrap count and the state of a register. -/
theorem applyAmount_frame (k a : Nat) (r : RegisterRec) : applyAmount k a r = { r with
    value := (applyAmount k a r).value, residue := (applyAmount k a r).residue
    wrapCount := (applyAmount k a r).wrapCount, state := (applyAmount k a r).state } := by
  unfold applyAmount
  split
  next => rfl
  next =>
    unfold applyStop
    dsimp only
    split <;> rfl

/-- Settles O16, by the two policies. -/
theorem wrapAndStopArithmetic : Obligations.WrapAndStopArithmetic := by
  intro k a r hk hd hlive total r'
  have hcap := capacity_pos k r
  refine ⟨?_, registerTotal_lt_capacity hk hd, fun hw => ?_, fun hs hlt => ?_, fun hs hge => ?_⟩
  · exact applyAmount_frame k a r
  · have hr' : r' = applyWrap k a r := by simp only [r', applyAmount, hw]
    rw [hr']
    refine ⟨registerTotal_withTotal_lt hk hd (Nat.mod_lt _ hcap) rfl rfl, hlive, ?_⟩
    show (BitVec.ofNat 4 (min 15 _)).toNat = _
    rw [BitVec.toNat_ofNat]
    exact Nat.mod_eq_of_lt (by omega)
  · have hr' : r' = withTotal k total r := by
      simp only [r', applyAmount, hs, applyStop]
      exact if_pos hlt
    rw [hr']
    exact ⟨registerTotal_withTotal hk hd hlt, hlive, rfl⟩
  · have hr' : r' = { withTotal k (capacity k r - 1) r with state := .overflowed } := by
      simp only [r', applyAmount, hs, applyStop]
      exact if_neg (Nat.not_lt.mpr hge)
    rw [hr']
    exact ⟨registerTotal_withTotal_lt hk hd (by omega) rfl rfl, rfl, rfl⟩

end Sys2Proof.Machine
end

section
/-! The commands that need a mode or a right and that no capture holds up: tariff, close, claim and snapshot
commands (R67, R94, R119, R125 to R127, R172, R173). -/

namespace Sys2Proof.Machine

/-! ### Past the common checks -/

/-- A known command of an allowed length, outside drain and in a mode that fits, meets its right check. -/
theorem commonRefusal_eq_right {p : PortId} {k : CommandKind} {args : List Byte} {s : State}
    (hk : known k = true) (hl : lengthAllowed k args.length = true) (hs : s.supply ≠ .drain)
    (hm : modeFits k s = true) : commonRefusal p ⟨k, args⟩ s = rightRefusal k p s := by
  simp [commonRefusal, hk, hl, hs, hm]

theorem commonRefusal_wrongMode {p : PortId} {k : CommandKind} {args : List Byte} {s : State}
    (hk : known k = true) (hl : lengthAllowed k args.length = true) (hs : s.supply ≠ .drain)
    (hm : modeFits k s = false) : commonRefusal p ⟨k, args⟩ s = some .wrongMode := by
  simp [commonRefusal, hk, hl, hs, hm]

/-- A command that no capture holds up, past its mode and its right. -/
theorem exec_taken {i : Instr} {p : PortId} {k : CommandKind} {args : List Byte} {s t : State}
    {st : Status} {data : List Byte} (hi : requestOf i = some (p, k, args)) (h : Takes p s)
    (hk : k ≠ .postIncrement ∧ takenByEngine k = false ∧ known k = true)
    (hl : lengthAllowed k args.length = true) (hm : modeFits k s = true)
    (hr : rightRefusal k p s = none) (hd : dispatched p ⟨k, args⟩ s = answer t st data)
    (he : t.ports[p].execution = s.ports[p].execution) :
    exec i s = .next (afterAnswer p k st data t) := by
  have ⟨_, hnone, hsupply⟩ := h
  obtain ⟨hpost, hengine, hknown⟩ := hk
  exact exec_answered hi h hpost ((commonRefusal_eq_right hknown hl hsupply hm).trans hr)
    (.inl fun ⟨h, _⟩ => by rw [hengine] at h; exact nomatch h) hd (he.trans hnone)

/-- A command that its right check turns away. -/
theorem exec_noRight {i : Instr} {p : PortId} {k : CommandKind} {args : List Byte} {s : State}
    {st : Status} (hi : requestOf i = some (p, k, args)) (h : Takes p s)
    (hk : k ≠ .postIncrement ∧ takenByEngine k = false ∧ known k = true)
    (hl : lengthAllowed k args.length = true) (hm : modeFits k s = true)
    (hr : rightRefusal k p s = some st) : exec i s = .next (afterAnswer p k st [] s) := by
  have ⟨_, _, hsupply⟩ := h
  obtain ⟨hpost, _, hknown⟩ := hk
  exact exec_refused hi h hpost hknown (le_lengthLimit_of_allowed hl)
    ((commonRefusal_eq_right hknown hl hsupply hm).trans hr)

/-! ### SET TARIFF -/

theorem modeFits_setTariff {s : State} (hm : s.store.mode ≠ .setup) :
    modeFits .setTariff s = (s.store.sourceMode == .command) := by
  rcases mode_ne_setup_iff.mp hm with hm | hm <;> simp [modeFits, modeAllowed, hm]

theorem dispatched_setTariff (p : PortId) (t : Tariff) (s : State) :
    dispatched p ⟨.setTariff, [tariffCode t]⟩ s
      = answer (if t = s.store.activeTariff then s else tariffChange t .command (some p) s) .ok
          [tariffCode s.store.activeTariff, tariffCode t] := by
  simp only [dispatched, doSetTariff, arg_cons_zero, tariffOfByte_tariffCode]

theorem tariffChange_port_execution (t : Tariff) (source : SourceMode) (port : Option PortId)
    (s : State) (p : PortId) :
    (tariffChange t source port s).ports[p].execution = s.ports[p].execution := by
  rw [tariffChange_eq]
  exact raise_port_execution _ _ p

/-- Settles O27, by whether the tariff named is the active one. -/
theorem setTariffChangesTheTariff : Obligations.SetTariffChangesTheTariff := by
  intro p t s h hm
  have ⟨_, _, hsupply⟩ := h
  have hk : CommandKind.setTariff ≠ .postIncrement ∧ takenByEngine .setTariff = false
      ∧ known .setTariff = true := ⟨(nomatch ·), rfl, rfl⟩
  have hfits : ∀ {m}, s.store.sourceMode = m → modeFits .setTariff s = (m == .command) := by
    rintro m rfl; exact modeFits_setTariff hm
  have hright : ∀ {b}, s.store.rights[p].tariff = b →
      rightRefusal .setTariff p s = if b then none else some .noRight := by
    rintro b rfl; rfl
  have hd := dispatched_setTariff p t s
  refine ⟨fun hc hr hne => ?_, fun hc hr heq => ?_, fun hlines => ?_, fun hc hr => ?_⟩
  · rw [if_neg hne] at hd
    have hrun := exec_taken (i := .setTariff p [tariffCode t]) rfl h hk rfl (hfits hc) (hright hr)
      hd (tariffChange_port_execution t .command (some p) s p)
    rw [tariffChange_eq] at hrun
    exact hrun
  · rw [if_pos heq] at hd
    exact exec_taken rfl h hk rfl (hfits hc) (hright hr) hd rfl
  · exact exec_refused rfl h (nomatch ·) rfl (le_lengthLimit_of_allowed (k := .setTariff) rfl)
      (commonRefusal_wrongMode rfl rfl hsupply (hfits hlines))
  · exact exec_noRight rfl h hk rfl (hfits hc) (hright hr)

/-! ### REQUEST CLOSE -/

/-- Settles O31, by the checks of REQUEST CLOSE in their order. -/
theorem requestCloseTakenOrRefused : Obligations.RequestCloseTakenOrRefused := by
  intro p s h hm hr
  have taken : ∀ {t : State} {st : Status} {data : List Byte},
      doRequestClose p [] s = answer t st data →
      t.ports[p].execution = s.ports[p].execution →
      exec (.requestClose p []) s = .next (afterAnswer p .requestClose st data t) :=
    fun hd he => exec_taken rfl h ⟨(nomatch ·), rfl, rfl⟩ rfl
      (by rcases mode_ne_setup_iff.mp hm with hm | hm <;> simp [modeFits, modeAllowed, hm])
      (by show (if s.store.rights[p].close then _ else _) = _; rw [hr]; rfl) hd he
  refine ⟨fun hrun hidle hin => ?_, fun hbusy => ?_, fun hrun hidle hin => ?_⟩
  · have hfree : ¬(s.store.mode = .enteringSetup ∨ s.closeState ≠ .idle) := by
      rw [hrun, hidle]; decide
    refine taken ?_ rfl
    rw [doRequestClose, if_neg hfree, hin]
    rfl
  · exact taken (if_pos hbusy) rfl
  · have hfree : ¬(s.store.mode = .enteringSetup ∨ s.closeState ≠ .idle) := by
      rw [hrun, hidle]; decide
    refine taken ?_ rfl
    rw [doRequestClose, if_neg hfree, hin]
    rfl

/-! ### CLAIM SETUP and RELEASE SETUP -/

/-- Settles O42, by who holds the claim. -/
theorem claimSetupAndRelease : Obligations.ClaimSetupAndRelease := by
  intro p s h hm
  have hk : CommandKind.claimSetup ≠ .postIncrement ∧ takenByEngine .claimSetup = false
      ∧ known .claimSetup = true := ⟨(nomatch ·), rfl, rfl⟩
  have hfits : ∀ {k}, modeAllowed k .setup = true → k ≠ .setTariff → modeFits k s = true :=
    fun ha hne => by simp [modeFits, hm, ha, hne]
  have hright : ∀ {b}, s.store.rights[p].setup = b →
      rightRefusal .claimSetup p s = if b then none else some .noRight := by
    rintro b rfl; rfl
  refine ⟨fun hr hfree => ?_, fun q hr hq hne => ?_, fun hr => ?_, fun hc => ?_⟩
  · refine exec_taken rfl h hk rfl (hfits rfl (nomatch ·)) (hright hr) ?_ rfl
    show doClaimSetup p [] s = _
    unfold doClaimSetup
    rcases hfree with hc | hc
    · rw [hc]
    · rw [hc]
      dsimp only
      rw [if_pos rfl, ← hc]
  · refine exec_taken rfl h hk rfl (hfits rfl (nomatch ·)) (hright hr) ?_ rfl
    show doClaimSetup p [] s = refuse s .claimed
    unfold doClaimSetup
    rw [hq]
    exact if_neg hne
  · exact exec_noRight rfl h hk rfl (hfits rfl (nomatch ·)) (hright hr)
  · exact exec_taken (k := .releaseSetup) rfl h ⟨(nomatch ·), rfl, rfl⟩ rfl
      (hfits rfl (nomatch ·)) (if_pos hc) rfl rfl

/-! ### SNAPSHOT OPEN -/

theorem mapM_finOfByte (regs : List RegSlot) :
    (regs.map fun i => byte i.val).mapM (finOfByte 32) = some regs := by
  induction regs with
  | nil => rfl
  | cons i is ih => simp [List.mapM_cons, ih]

theorem nodup_map_byte {regs : List RegSlot} :
    (regs.map fun i => byte i.val).Nodup ↔ regs.Nodup := by
  refine List.nodup_map_iff fun i j h => ?_
  have hi := slotOfByte_byte i
  rw [show byte i.val = byte j.val from h, slotOfByte_byte] at hi
  exact (Option.some.inj hi).symm

theorem openList_map {regs : List RegSlot} (lease : Byte) (h1 : 1 ≤ regs.length)
    (h16 : regs.length ≤ 16) : openList (lease :: regs.map fun i => byte i.val)
      = if regs.Nodup then some regs else none := by
  unfold openList
  dsimp only
  rw [List.drop_succ_cons, List.drop_zero, mapM_finOfByte, List.length_map]
  refine if_congr ?_ rfl rfl
  rw [nodup_map_byte]
  exact ⟨fun ⟨_, _, h⟩ => h, fun h => ⟨h1, h16, h⟩⟩

theorem lowestFree_eq_some {s : State} {i : SnapId} (hi : s.slots[i] = .free)
    (hlow : ∀ j : SnapId, j < i → s.slots[j] ≠ .free) : lowestFree s = some i := by
  unfold lowestFree
  refine List.find?_eq_some_iff_getElem.mpr ⟨beq_iff_eq.mpr hi, i.val, by simp, by simp, ?_⟩
  intro j hj
  simpa using hlow ⟨j, hj.trans i.isLt⟩ hj

theorem lowestFree_eq_none {s : State} (h : ∀ i : SnapId, s.slots[i] ≠ .free) :
    lowestFree s = none := List.find?_eq_none.mpr fun i _ => by simpa using h i

theorem lengthAllowed_snapshotOpen {regs : List RegSlot} (lease : Byte) (h1 : 1 ≤ regs.length)
    (h16 : regs.length ≤ 16) :
    lengthAllowed .snapshotOpen (lease :: regs.map fun i => byte i.val).length = true := by
  simp [lengthAllowed]; omega

/-- Settles O37, by the checks of SNAPSHOT OPEN in their order. -/
theorem snapshotOpenGivesTheLowestSlot : Obligations.SnapshotOpenGivesTheLowestSlot := by
  intro p lease regs s h hr hlease h1 h16
  have hrange : inRange 1 255 lease.toNat = some lease.toNat :=
    inRange_eq_some hlease (by have := lease.isLt; omega)
  have hopen := openList_map lease h1 h16
  have taken : ∀ {t : State} {st : Status} {data : List Byte},
      doSnapshotOpen p (lease :: regs.map fun i => byte i.val) s = answer t st data →
      t.ports[p].execution = s.ports[p].execution →
      exec (.snapshotOpen p (lease :: regs.map fun i => byte i.val)) s
        = .next (afterAnswer p .snapshotOpen st data t) :=
    fun hd he => exec_taken rfl h ⟨(nomatch ·), rfl, rfl⟩ (lengthAllowed_snapshotOpen lease h1 h16)
      rfl (by show (if s.store.rights[p].snap then _ else _) = _; rw [hr]; rfl) hd he
  have hlist : regs.Nodup → openList (lease :: regs.map fun i => byte i.val) = some regs :=
    fun hnd => hopen.trans (if_pos hnd)
  refine ⟨fun i hnd hcount hfree hlow => ?_, fun hnd hcount => ?_, fun hnd hcount hnone => ?_,
    fun hdup => ?_⟩ <;> refine taken ?_ rfl <;> unfold doSnapshotOpen
  · rw [hlist hnd, arg_cons_zero, hrange]
    dsimp only
    rw [if_neg (Nat.not_le.mpr hcount), lowestFree_eq_some hfree hlow]
  · rw [hlist hnd, arg_cons_zero, hrange]
    exact if_pos hcount
  · rw [hlist hnd, arg_cons_zero, hrange]
    dsimp only
    rw [if_neg (Nat.not_le.mpr hcount), lowestFree_eq_none hnone]
    rfl
  · rw [hopen, if_neg hdup]
    rfl

/-! ### SNAPSHOT READ, RENEW and RELEASE -/

/-- SNAPSHOT READ with arguments in their ranges, by what its slot is to its port. -/
theorem dispatched_snapshotRead_notHeld {p : PortId} {i : SnapId} {first count : Nat} {s : State}
    (hf : first ≤ 15) (h1 : 1 ≤ count) (h4 : count ≤ 4) (hno : slotHolder s.slots[i] ≠ some p) :
    dispatched p ⟨.snapshotRead, [byte i.val, byte first, byte count]⟩ s = refuse s .notHeld := by
  simp only [dispatched, doSnapshotRead, arg_cons_zero, arg_cons_succ, channelOfByte_byte,
    inRange_byte (Nat.zero_le _) hf (by decide), inRange_byte h1 h4 (by decide)]
  exact if_pos hno

theorem dispatched_snapshotRead_held {p : PortId} {i : SnapId} {first count : Nat} {s : State}
    {o : Opened} {remaining : Nat} {entries : List CapturedEntry} {stamp : Stamp}
    (hf : first ≤ 15) (h1 : 1 ≤ count) (h4 : count ≤ 4)
    (hs : s.slots[i] = .held o remaining entries stamp) (ho : o.holder = p) :
    dispatched p ⟨.snapshotRead, [byte i.val, byte first, byte count]⟩ s
      = if first < o.list.length then
          answer s .ok (readSlotData i o remaining entries stamp first count)
        else refuse s .badArgument := by
  simp only [dispatched, doSnapshotRead, arg_cons_zero, arg_cons_succ, channelOfByte_byte,
    inRange_byte (Nat.zero_le _) hf (by decide), inRange_byte h1 h4 (by decide)]
  rw [hs]
  exact if_neg (not_not.mpr (congrArg some ho))

theorem dispatched_snapshotRead_pending {p : PortId} {i : SnapId} {first count : Nat} {s : State}
    {o : Opened} (hf : first ≤ 15) (h1 : 1 ≤ count) (h4 : count ≤ 4) (hs : s.slots[i] = .pending o)
    (ho : o.holder = p) :
    dispatched p ⟨.snapshotRead, [byte i.val, byte first, byte count]⟩ s = refuse s .notReady := by
  simp only [dispatched, doSnapshotRead, arg_cons_zero, arg_cons_succ, channelOfByte_byte,
    inRange_byte (Nat.zero_le _) hf (by decide), inRange_byte h1 h4 (by decide)]
  rw [hs]
  exact if_neg (not_not.mpr (congrArg some ho))

theorem dispatched_snapshotRenew_notHeld {p : PortId} {i : SnapId} {s : State}
    (hno : slotHolder s.slots[i] ≠ some p) :
    dispatched p ⟨.snapshotRenew, [byte i.val]⟩ s = refuse s .notHeld := by
  simp only [dispatched, doSnapshotRenew, arg_cons_zero, channelOfByte_byte]
  exact if_pos hno

theorem dispatched_snapshotRenew_pending {p : PortId} {i : SnapId} {s : State} {o : Opened}
    (hs : s.slots[i] = .pending o) (ho : o.holder = p) :
    dispatched p ⟨.snapshotRenew, [byte i.val]⟩ s = refuse s .notReady := by
  simp only [dispatched, doSnapshotRenew, arg_cons_zero, channelOfByte_byte]
  rw [hs]
  exact if_neg (not_not.mpr (congrArg some ho))

theorem dispatched_snapshotRenew_held {p : PortId} {i : SnapId} {s : State} {o : Opened}
    {remaining : Nat} {entries : List CapturedEntry} {stamp : Stamp}
    (hs : s.slots[i] = .held o remaining entries stamp) (ho : o.holder = p) :
    dispatched p ⟨.snapshotRenew, [byte i.val]⟩ s
      = answer { s with slots := s.slots.set i (.held o o.lease entries stamp) } .ok
          [byte i.val, byte o.lease] := by
  simp only [dispatched, doSnapshotRenew, arg_cons_zero, channelOfByte_byte]
  rw [hs]
  exact if_neg (not_not.mpr (congrArg some ho))

theorem dispatched_snapshotRelease (p : PortId) (i : SnapId) (s : State) :
    dispatched p ⟨.snapshotRelease, [byte i.val]⟩ s
      = if slotHolder s.slots[i] ≠ some p then refuse s .notHeld else answer (freeSlot s i) .ok [] := by
  simp only [dispatched, doSnapshotRelease, arg_cons_zero, channelOfByte_byte]

/-- Settles O38, by whose the slot is and what it holds. -/
theorem snapshotReadAndReleased : Obligations.SnapshotReadAndReleased := by
  intro p i s h
  have hrel := dispatched_snapshotRelease p i s
  refine ⟨fun first count o remaining entries stamp hf h1 h4 => ?_, fun hno => ?_, fun hown => ?_⟩
  · refine ⟨fun hs ho hlt => ?_, fun hs ho hge => ?_, fun hs ho => ?_, fun hno => ?_⟩
    · exact exec_free rfl h rfl rfl
        ((dispatched_snapshotRead_held hf h1 h4 hs ho).trans (if_pos hlt)) rfl
    · exact exec_free rfl h rfl rfl
        ((dispatched_snapshotRead_held hf h1 h4 hs ho).trans (if_neg (Nat.not_lt.mpr hge))) rfl
    · exact exec_free rfl h rfl rfl (dispatched_snapshotRead_pending hf h1 h4 hs ho) rfl
    · exact exec_free rfl h rfl rfl (dispatched_snapshotRead_notHeld hf h1 h4 hno) rfl
  · rw [if_pos hno] at hrel
    exact exec_free rfl h rfl rfl hrel rfl
  · rw [if_neg (not_not.mpr hown)] at hrel
    rw [exec_free (i := .snapshotRelease p [byte i.val]) rfl h rfl rfl hrel rfl, freeSlot_frame,
      freeSlot_engine_eq]
    cases s.engine <;> rfl

/-- Settles O39, by whose the slot is and what it holds. -/
theorem snapshotRenewRestoresTheLease : Obligations.SnapshotRenewRestoresTheLease := by
  intro p i b s h
  refine ⟨fun hbad => ?_, fun hno => ?_, fun o hs ho => ?_, fun o remaining entries stamp hs ho => ?_⟩
  · refine exec_free (k := .snapshotRenew) rfl h rfl rfl ?_ rfl
    show doSnapshotRenew p [b] s = refuse s .badArgument
    unfold doSnapshotRenew
    rw [arg_cons_zero, finOfByte_eq_none hbad]
  · exact exec_free rfl h rfl rfl (dispatched_snapshotRenew_notHeld hno) rfl
  · exact exec_free rfl h rfl rfl (dispatched_snapshotRenew_pending hs ho) rfl
  · exact exec_free rfl h rfl rfl (dispatched_snapshotRenew_held hs ho) rfl

end Sys2Proof.Machine
end

section
/-! The configuration edits (R74, R86, R91, R142, R175), and COMMIT and REOPEN (R178 to R181). -/

namespace Sys2Proof.Machine

/-! ### The edits that write one item -/

@[simp] theorem parseRights_byte (postMask : Byte) (t c n u : Bool) :
    parseRights postMask (byte (t.toNat + 2 * c.toNat + 4 * n.toNat + 8 * u.toNat))
      = some ⟨postMask, t, c, n, u⟩ := by
  cases t <;> cases c <;> cases n <;> cases u <;> rfl

theorem optionCode_ne_none (q : Quantity) : byte q.val ≠ 0xFF#8 := by
  revert q; decide

@[simp] theorem finOrNone_optionCode (q : Option Quantity) :
    finOrNone 8 (optionCode q) = some q := by
  cases q with
  | none => rfl
  | some q =>
    show finOrNone 8 (byte q.val) = _
    rw [finOrNone, if_neg (optionCode_ne_none q), quantityOfByte_byte]
    rfl

/-- Whether another channel tracks a channel's quantity (R86). -/
theorem tracked_iff (s : State) (c : ChannelId) (q : Option Quantity) :
    ((q.isSome = true ∧ ((List.finRange 4).any fun d => d != c && s.store.channels[d].quantity == q)
        = true)
      ↔ q ≠ none ∧ ∃ d : ChannelId, d ≠ c ∧ s.store.channels[d].quantity = q) := by
  rw [Option.isSome_iff_ne_none, List.any_eq_true]
  refine and_congr_right fun _ => exists_congr fun d => ?_
  rw [Bool.and_eq_true, bne_iff_ne, beq_iff_eq]
  exact and_iff_right (List.mem_finRange d)

theorem dispatched_defineDemandChannel (p : PortId) (c : ChannelId) (q : Option Quantity) (s : State)
    (hq : ∀ x ∈ q, s.store.quantities[x].defined = true) :
    dispatched p ⟨.defineDemandChannel, [byte c.val, optionCode q]⟩ s
      = if q.isSome ∧ (List.finRange 4).any (fun d => d != c && s.store.channels[d].quantity == q)
        then refuse s .conflict
        else answer { onConfiguration (fun st =>
            { st with channels := st.channels.set c ⟨q, zeroMaxima⟩ }) s with
          accumulators := s.accumulators.set c 0 } .ok [] := by
  simp only [dispatched, doDefineDemandChannel, arg_cons_zero, arg_cons_succ, channelOfByte_byte,
    finOrNone_optionCode]
  cases q with
  | none => rfl
  | some x =>
    have hx : s.store.quantities[x].defined = true := hq x rfl
    dsimp only
    rw [if_neg (by rw [hx]; exact (nomatch ·))]
    rfl

/-- Settles O43, an equation for each configuration edit. -/
theorem configurationEditsWriteTheirItem : Obligations.ConfigurationEditsWriteTheirItem := by
  intro p s h
  refine ⟨fun q postMask tariff close snap setup => ?_, fun m setIt t => ?_, fun m overdue inhibit => ?_,
    fun c q hq => ?_⟩
  · refine exec_edit (k := .setRights) rfl h rfl rfl ?_ rfl
    simp only [dispatched, doSetRights, arg_cons_zero, arg_cons_succ, portOfByte_byte,
      parseRights_byte]
    rfl
  · refine exec_edit (k := .setTariffSource) rfl h rfl rfl ?_ rfl
    simp only [dispatched, doSetTariffSource, arg_cons_zero, arg_cons_succ, sourceOfByte_byte,
      boolOfByte_boolCode, tariffOfByte_tariffCode]
    cases setIt <;> rfl
  · refine exec_edit (k := .setCloseOptions) rfl h rfl rfl ?_ rfl
    simp only [dispatched, doSetCloseOptions, arg_cons_zero, arg_cons_succ, lineModeOfByte_byte,
      boolOfByte_boolCode]
    rfl
  · have hd := dispatched_defineDemandChannel p c q s hq
    refine ⟨fun hfree => ?_, fun htaken => ?_⟩
    · rw [if_neg (mt (tracked_iff s c q).mp hfree)] at hd
      exact exec_edit rfl h rfl rfl hd rfl
    · rw [if_pos ((tracked_iff s c q).mpr htaken)] at hd
      exact exec_edit rfl h rfl rfl hd rfl

/-! ### DEFINE CHAIN -/

/-- The code of a chain's function (R177). -/
def chainFnCode : ChainFn → Byte
  | .demand => 0
  | .overdue => 1
  | .inhibit => 2

@[simp] theorem chainFnOfByte_chainFnCode (f : ChainFn) : chainFnOfByte (chainFnCode f) = some f := by
  cases f <;> rfl

/-- What DEFINE CHAIN leaves where it writes an entry. -/
theorem exec_defineChain_unassign {p : PortId} {f : ChainFn} {s : State} (h : Edits p s)
    {rest : List Byte} (hl : rest.length = 9) :
    exec (.defineChain p (chainFnCode f :: 1 :: rest)) s = .next (afterAnswer p .defineChain .ok []
      (onConfiguration (fun st => { st with chains := withChain st.chains f unassignedChain }) s)) := by
  refine exec_edit rfl h rfl (by simp [lengthAllowed, hl]) ?_ rfl
  simp only [dispatched, doDefineChain, arg_cons_zero, arg_cons_succ, chainFnOfByte_chainFnCode]
  rfl

/-- The arguments that give a new entry. -/
theorem parseChain_args (code flag : Byte) {first n reload : Nat} (tick : ChainTick) (hn : 1 ≤ n)
    (hf : first + n ≤ 4) (hr : 1 ≤ reload) (hr' : reload < 4096 ^ n) :
    parseChain ([code, flag, byte first, byte n, byte (chainTickNat tick)] ++ bigEndian 6 reload)
      = some ⟨first, n, tick, reload, .stopped, 0⟩ := by
  have hlt : reload < 256 ^ 6 :=
    hr'.trans_le ((Nat.pow_le_pow_right (by decide) (by omega : n ≤ 4)).trans (by decide))
  have hbytes : argBytes ([code, flag, byte first, byte n, byte (chainTickNat tick)]
      ++ bigEndian 6 reload) 5 6 = bigEndian 6 reload := rfl
  unfold parseChain
  rw [hbytes, fromBigEndian_bigEndian_of_lt hlt]
  simp only [List.cons_append, arg_cons_zero, arg_cons_succ, chainTickOfByte_byte,
    inRange_byte (Nat.zero_le _) (by omega : first ≤ 3) (by decide),
    inRange_byte hn (by omega : n ≤ 4) (by decide), inRange_eq_some hr (by omega : reload ≤ 4096 ^ n - 1),
    Option.bind_eq_bind, Option.bind_some, if_pos hf]
  rfl

theorem dispatched_defineChain (p : PortId) (f : ChainFn) (s : State) {first n reload : Nat}
    (tick : ChainTick) (hn : 1 ≤ n) (hf : first + n ≤ 4) (hr : 1 ≤ reload) (hr' : reload < 4096 ^ n) :
    dispatched p ⟨.defineChain, [chainFnCode f, 0, byte first, byte n, byte (chainTickNat tick)]
        ++ bigEndian 6 reload⟩ s
      = if overlapsOther s.store.chains f first n then refuse s .badArgument
        else answer (onConfiguration (fun st => { st with
          chains := withChain st.chains f ⟨first, n, tick, reload, .stopped, 0⟩ }) s) .ok [] := by
  simp only [dispatched, doDefineChain, parseChain_args (chainFnCode f) 0 tick hn hf hr hr']
  simp only [List.cons_append, arg_cons_zero, arg_cons_succ, chainFnOfByte_chainFnCode]
  rfl

theorem overlapsOther_iff_apart {cs : Chains} {f : ChainFn} {first n : Nat} :
    overlapsOther cs f first n = false ↔ ∀ g : ChainFn, g ≠ f → (chainOf cs g).state ≠ .unassigned →
      first + n ≤ (chainOf cs g).first ∨ (chainOf cs g).first + (chainOf cs g).length ≤ first := by
  simp only [overlapsOther_eq_false_iff, sharesSegment_eq_false_iff, assigned_iff]

/-- Settles O44, by the segments of the other chains. -/
theorem defineChainKeepsChainsApart : Obligations.DefineChainKeepsChainsApart := by
  intro p f s h code write
  have hcode : code = chainFnCode f := by cases f <;> rfl
  rw [hcode]
  refine ⟨fun rest hl => exec_defineChain_unassign h hl, fun first n reload tick hn hf hr hr' => ?_⟩
  have hd := dispatched_defineChain p f s tick hn hf hr hr'
  refine ⟨fun hapart => ?_, fun hover => ?_⟩
  · rw [overlapsOther_iff_apart.mpr hapart] at hd
    exact exec_edit rfl h rfl rfl hd rfl
  · rw [← overlapsOther_iff_apart, Bool.not_eq_false] at hover
    rw [hover] at hd
    exact exec_edit rfl h rfl rfl hd rfl

/-! ### COMMIT -/

/-- The checks of COMMIT in order (R178). -/
theorem commitFault_eq (st : Store) : commitFault st
    = if (∃ c : ChannelId, st.channels[c].quantity ≠ none) ∧ st.chains.demand.state = .unassigned then
        some (3, 0)
      else if st.closeOptions.overdueEnabled = true ∧ st.chains.overdue.state = .unassigned then
        some (4, 1)
      else if st.closeOptions.inhibitEnabled = true ∧ st.chains.inhibit.state = .unassigned then
        some (5, 2)
      else if ∀ q : PortId, st.rights[q].setup = false then some (6, 0)
      else none := by
  have hchannels : st.channels.toList.any (·.quantity.isSome) = true
      ↔ ∃ c : ChannelId, st.channels[c].quantity ≠ none := by
    rw [← not_iff_not, Bool.not_eq_true, any_toList_eq_false_iff, not_exists]
    refine forall_congr' fun c => ?_
    rw [Option.isSome_eq_false_iff, Option.isNone_iff_eq_none, not_not]
  have hassigned : ∀ c : Chain, (!assigned c) = true ↔ c.state = .unassigned := fun c => by
    rw [Bool.not_eq_true', ← Bool.not_eq_true, assigned_iff, not_not]
  unfold commitFault
  simp only [Bool.and_eq_true, hchannels, hassigned]
  refine if_congr Iff.rfl rfl (if_congr Iff.rfl rfl (if_congr Iff.rfl rfl (if_congr ?_ rfl rfl)))
  rw [Bool.not_eq_true', any_toList_eq_false_iff]

/-- A command that passes every check while the engine captures waits (R40, R179). -/
theorem exec_held {i : Instr} {p : PortId} {k : CommandKind} {args : List Byte} {s : State}
    {data : List Byte} (hi : requestOf i = some (p, k, args)) (h : Takes p s)
    (hc : commonRefusal p ⟨k, args⟩ s = none) (hk : takenByEngine k = true)
    (hcap : capturing s = true)
    (hd : (dispatched p ⟨k, args⟩ (openFrame p s)).result = some (.ok, data)) :
    exec i s = .next (onPort p (fun q =>
      { framed q with execution := some ⟨⟨k, args⟩, true⟩, wire := .waitBytes }) s) := by
  have ⟨hl, he, _⟩ := h
  obtain ⟨hknown, hlen, _⟩ := commonRefusal_eq_none_iff.mp hc
  have hrun : runCommand p ⟨k, args⟩ (openFrame p s) = keepWaiting (openFrame p s) := by
    unfold runCommand
    rw [commonRefusal_openFrame, hc]
    exact if_pos ⟨hk, (capturing_openFrame p s).trans hcap, by unfold passes; rw [hd]; rfl⟩
  rw [exec_of_requestOf hi (.inl hknown),
    takeCommand_of_free hl he k (le_lengthLimit_of_allowed hlen)]
  unfold runOne
  rw [hrun]
  show Host.Outcome.next (onPort p _ (openFrame p s)) = _
  rw [openFrame_eq_onPort, onPort_onPort]
  rfl

theorem exec_commit_refused {p : PortId} {s : State} (h : Takes p s) (hm : s.store.mode = .setup)
    (hc : s.claim = some p) {reason index : Byte} (hf : commitFault s.store = some (reason, index)) :
    exec (.commit p []) s = .next (afterAnswer p .commit .commitRefused [reason, index] s) := by
  have ⟨_, hnone, hsupply⟩ := h
  refine exec_answered rfl h (nomatch ·) (commonRefusal_edit (.inr (.inl rfl)) rfl hsupply hm hc)
    (.inr (nomatch ·)) ?_ hnone
  show doCommit p [] s = _
  unfold doCommit
  rw [hf]

theorem doCommit_of_noFault {p : PortId} {s : State} (hf : commitFault s.store = none) :
    doCommit p [] s = answer (committed s) .ok [] := by
  unfold doCommit
  rw [hf]

/-- The chains and the demand interval as COMMIT starts them (R81, R140). -/
theorem chainsStarted_eq (s : State) :
    onChain .inhibit released (onChain .overdue loaded (partialEnd s)) = { s with
      store := { s.store with
        intervalIndex := min (s.store.intervalIndex + 1) 65535
        chains := ⟨loaded s.store.chains.demand, loaded s.store.chains.overdue,
          released s.store.chains.inhibit⟩ }
      accumulators := Vector.replicate 4 0
      intervalPartial := true } := rfl

theorem committed_eq (s : State) : committed s = { s with
    store := { s.store with
      mode := .run
      overdueHeld := false
      intervalIndex := min (s.store.intervalIndex + 1) 65535
      chains := ⟨loaded s.store.chains.demand, loaded s.store.chains.overdue,
        released s.store.chains.inhibit⟩ }
    claim := none
    engine := .ready
    lineHistory := none
    recognizer := ⟨.unknown, false, 0⟩
    latch := false
    inputs := s.inputs.map fun i => { i with eligible := false }
    accumulators := Vector.replicate 4 0
    intervalPartial := true } := by
  unfold committed
  rw [chainsStarted_eq]
  rfl

theorem exec_commit_ok {p : PortId} {s : State} (h : Takes p s) (hm : s.store.mode = .setup)
    (hc : s.claim = some p) (hf : commitFault s.store = none) (hcap : capturing s = false) :
    exec (.commit p []) s = .next (afterAnswer p .commit .ok [] (committed s)) := by
  have ⟨_, hnone, hsupply⟩ := h
  exact exec_answered rfl h (nomatch ·) (commonRefusal_edit (.inr (.inl rfl)) rfl hsupply hm hc)
    (.inl fun ⟨_, h⟩ => by rw [hcap] at h; exact nomatch h) (doCommit_of_noFault (p := p) hf)
    (by rw [committed_eq]; exact hnone)

/-- Settles O45, by the first fault that COMMIT finds. -/
theorem commitStartsCounting : Obligations.CommitStartsCounting := by
  intro p s h hm hc cs needsDemand lacks1 lacks2 lacks3 lacks4 refused
  have ⟨_, _, hsupply⟩ := h
  have hcommon := commonRefusal_edit (k := .commit) (args := []) (.inr (.inl rfl)) rfl hsupply hm hc
  have hfault := commitFault_eq s.store
  have hpassed : ¬ lacks1 → ¬ lacks2 → ¬ lacks3 → ¬ lacks4 → commitFault s.store = none :=
    fun h1 h2 h3 h4 => by rw [hfault, if_neg h1, if_neg h2, if_neg h3, if_neg h4]
  refine ⟨fun h1 => ?_, fun h1 h2 => ?_, fun h1 h2 h3 => ?_, fun h1 h2 h3 h4 => ?_,
    fun h1 h2 h3 h4 hcap => ?_, fun h1 h2 h3 h4 hcap => ?_⟩
  · exact exec_commit_refused h hm hc (hfault.trans (if_pos h1))
  · rw [if_neg h1] at hfault
    exact exec_commit_refused h hm hc (hfault.trans (if_pos h2))
  · rw [if_neg h1, if_neg h2] at hfault
    exact exec_commit_refused h hm hc (hfault.trans (if_pos h3))
  · rw [if_neg h1, if_neg h2, if_neg h3] at hfault
    exact exec_commit_refused h hm hc (hfault.trans (if_pos h4))
  · rw [exec_commit_ok h hm hc (hpassed h1 h2 h3 h4) hcap, committed_eq]
  · refine exec_held (data := []) rfl h hcommon rfl hcap ?_
    rw [show dispatched p ⟨.commit, []⟩ (openFrame p s) = doCommit p [] (openFrame p s) from rfl,
      doCommit_of_noFault (s := openFrame p s) (hpassed h1 h2 h3 h4)]
    rfl

/-! ### REOPEN and the SETUP close -/

theorem setupCloseDue_iff (s : State) : setupCloseDue s = true ↔
    s.store.mode = .enteringSetup ∧ s.supply = .runSupply ∧ s.closeState = .idle ∧ s.queue = []
      ∧ s.captureQueue = [] ∧ s.engine = .ready ∧ ∀ n : InputId, eligible s n = false := by
  simp only [setupCloseDue, Bool.and_eq_true, beq_iff_eq, List.isEmpty_iff, Bool.not_eq_true',
    anyEligible, List.any_eq_false, Bool.not_eq_true, List.mem_finRange, forall_const, and_assoc]

theorem eligible_iff (s : State) (n : InputId) : eligible s n = true ↔
    s.store.pulseDefs[n].enabled = true
      ∧ (s.store.pulseDefs[n].threshold ≤ s.store.pulseCounts[n].pending
        ∨ s.inputs[n].eligible = true)
      ∧ ¬(s.store.mode = .enteringSetup ∧ s.inputs[n].served = true) := by
  unfold eligible
  rw [Bool.and_eq_true, Bool.and_eq_true, Bool.or_eq_true, decide_eq_true_eq, Bool.not_eq_true',
    ← Bool.not_eq_true, Bool.and_eq_true, beq_iff_eq, and_assoc]

/-- Settles O46, from REOPEN to the placement of its close. -/
theorem reopenLeadsToTheSetupClose : Obligations.ReopenLeadsToTheSetupClose := by
  intro s
  refine ⟨fun p h hm hr => ?_, fun r hreopen hm hs hidle hq hcq he hn => ?_⟩
  · have taken : ∀ {t : State} {st : Status} {data : List Byte}, doReopen p [] s = answer t st data →
        t.ports[p].execution = s.ports[p].execution →
        exec (.reopen p []) s = .next (afterAnswer p .reopen st data t) :=
      fun hd he => exec_taken rfl h ⟨(nomatch ·), rfl, rfl⟩ rfl (by simp [modeFits, modeAllowed, hm])
        (by show (if s.store.rights[p].setup then _ else _) = _; rw [hr]; rfl) hd he
    exact ⟨fun hidle => taken (if_neg (not_not.mpr hidle)) rfl, fun hbusy => taken (if_pos hbusy) rfl⟩
  · have hdue : setupCloseDue s = true := by
      refine (setupCloseDue_iff s).mpr ⟨hm, hs, hidle, hq, hcq, he, fun n => ?_⟩
      rw [← Bool.not_eq_true, eligible_iff]
      rintro ⟨hen, hth, hserved⟩
      exact hn n ⟨hen, hth, Bool.eq_false_iff.mpr fun h => hserved ⟨hm, h⟩⟩
    show Host.Outcome.next (if setupCloseDue s then placeSetupClose s else s) = _
    have hrequester : s.reopen.map (·.requester) = some r.requester := by rw [hreopen]; rfl
    rw [if_pos hdue, placeSetupClose, hrequester]
    rfl

end Sys2Proof.Machine
end

section
/-! The period log (R113, R115) and the commands on a pulse input (R61 to R63). -/

namespace Sys2Proof.Machine

/-! ### READ LOG -/

/-- The two forms of READ LOG's arguments (R113). -/
theorem selectedBack_newest (st : Store) {n : Nat} (rest : List Byte) (hn : n ≤ 31) :
    selectedBack st (0 :: bigEndian 2 n ++ rest) = some n := by
  have hbytes : argBytes (0 :: bigEndian 2 n ++ rest) 1 2 = bigEndian 2 n := rfl
  unfold selectedBack
  dsimp only
  rw [hbytes, fromBigEndian_bigEndian_of_lt (by omega)]
  exact inRange_eq_some (Nat.zero_le n) hn

theorem selectedBack_number (st : Store) (number : BitVec 16) (rest : List Byte) :
    selectedBack st (1 :: bigEndian 2 number.toNat ++ rest)
      = some (st.periodNumber - 1 - number).toNat := by
  have hbytes : argBytes (1 :: bigEndian 2 number.toNat ++ rest) 1 2 = bigEndian 2 number.toNat := rfl
  unfold selectedBack
  dsimp only
  rw [hbytes, fromBigEndian_bigEndian_of_lt number.isLt, BitVec.ofNat_toNat, BitVec.setWidth_eq]
  rfl

/-- A number that lies a few periods back selects the record that stands as many back (R113). -/
theorem number_back (newest : BitVec 16) {n : Nat} (hn : n ≤ 31) :
    (newest - (newest - BitVec.ofNat 16 n)).toNat = n := by
  rw [sub_sub_cancel, BitVec.toNat_ofNat]
  exact Nat.mod_eq_of_lt (by omega)

/-- READ LOG of the record that stands `back` from the newest. -/
theorem doReadLog_found (p : PortId) {head : List Byte} {back offset : Nat} {s : State} {e : LogEntry}
    (hlen : head.length = 3) (hoffset : offset ≤ 445)
    (hback : selectedBack s.store (head ++ bigEndian 2 offset) = some back)
    (hlt : back < s.store.log.entries.length)
    (hget : s.store.log.entries[s.store.log.entries.length - 1 - back]? = some e) :
    doReadLog p (head ++ bigEndian 2 offset) s
      = let found := bigEndian 2 (s.store.periodNumber - 1 - BitVec.ofNat 16 back).toNat
          ++ bigEndian 2 e.size
        if e.damaged then answer s .damaged found
        else if recordCheckOk e.bytes = false then
          answer (onStore (fun st => { st with
            log := markDamaged (s.store.log.entries.length - 1 - back) st.log }) s) .damaged found
        else if e.size ≤ offset then refuse s .badArgument
        else answer s .ok (found ++ bigEndian 2 offset ++ argBytes e.bytes offset 48) := by
  have hbytes : argBytes (head ++ bigEndian 2 offset) 3 2 = bigEndian 2 offset := by
    rw [argBytes, ← hlen, List.drop_left]; rfl
  unfold doReadLog
  rw [hback, hbytes, fromBigEndian_bigEndian_of_lt (by omega), inRange_eq_some (Nat.zero_le _) hoffset]
  dsimp only
  rw [if_pos hlt, hget]

theorem doReadLog_notFound (p : PortId) {head : List Byte} {back offset : Nat} {s : State}
    (hlen : head.length = 3) (hoffset : offset ≤ 445)
    (hback : selectedBack s.store (head ++ bigEndian 2 offset) = some back)
    (hfar : s.store.log.entries.length ≤ back) :
    doReadLog p (head ++ bigEndian 2 offset) s = refuse s .notFound := by
  have hbytes : argBytes (head ++ bigEndian 2 offset) 3 2 = bigEndian 2 offset := by
    rw [argBytes, ← hlen, List.drop_left]; rfl
  unfold doReadLog
  rw [hback, hbytes, fromBigEndian_bigEndian_of_lt (by omega), inRange_eq_some (Nat.zero_le _) hoffset]
  exact if_neg (Nat.not_lt.mpr hfar)

theorem exec_readLog {p : PortId} {head : List Byte} {offset : Nat} {s t : State} {st : Status}
    {data : List Byte} (h : Takes p s) (hlen : head.length = 3)
    (hd : doReadLog p (head ++ bigEndian 2 offset) s = answer t st data)
    (he : t.ports[p].execution = s.ports[p].execution) :
    exec (.readLog p (head ++ bigEndian 2 offset)) s = .next (afterAnswer p .readLog st data t) := by
  refine exec_free rfl h rfl ?_ hd he
  simp [lengthAllowed, hlen, length_bigEndian]

theorem exec_readLog_notFound {p : PortId} {head : List Byte} {back offset : Nat} {s : State}
    (h : Takes p s) (hlen : head.length = 3) (hoffset : offset ≤ 445)
    (hback : selectedBack s.store (head ++ bigEndian 2 offset) = some back)
    (hfar : s.store.log.entries.length ≤ back) :
    exec (.readLog p (head ++ bigEndian 2 offset)) s
      = .next (afterAnswer p .readLog .notFound [] s) := by
  exact exec_readLog h hlen (doReadLog_notFound p hlen hoffset hback hfar) rfl

/-- Settles O36, by the record that the arguments select. -/
theorem logReadAndCleared : Obligations.LogReadAndCleared := by
  intro p s h entries byBack byNumber
  refine ⟨fun n offset e row hn hoffset hlt hget => ?_, fun n offset hn hoffset hfar => ?_,
    fun number offset hoffset hfar => ?_, fun hedit => ?_⟩
  · intro number hrow found marked
    obtain ⟨head, hlen, hback, rfl⟩ : ∃ head : List Byte, head.length = 3
        ∧ selectedBack s.store (head ++ bigEndian 2 offset) = some n
        ∧ row = .readLog p (head ++ bigEndian 2 offset) := by
      rcases hrow with rfl | rfl
      · exact ⟨0 :: bigEndian 2 n, rfl, selectedBack_newest _ _ hn, rfl⟩
      · refine ⟨1 :: bigEndian 2 number.toNat, rfl, ?_, rfl⟩
        rw [selectedBack_number, number_back _ hn]
    have hd := doReadLog_found p hlen hoffset hback hlt hget
    dsimp only at hd
    refine ⟨fun hdam hok hsize => ?_, fun hdam => ?_, fun hdam hok => ?_, fun hdam hok hsize => ?_⟩
    · rw [hdam, hok, if_neg (by decide), if_neg (by decide), if_neg (Nat.not_le.mpr hsize)] at hd
      exact exec_readLog h hlen hd rfl
    · rw [if_pos hdam] at hd
      exact exec_readLog h hlen hd rfl
    · rw [hdam, if_neg (by decide), if_pos hok] at hd
      exact exec_readLog h hlen hd rfl
    · rw [hdam, hok, if_neg (by decide), if_neg (by decide), if_pos hsize] at hd
      exact exec_readLog h hlen hd rfl
  · exact exec_readLog_notFound (head := 0 :: bigEndian 2 n) h rfl hoffset
      (selectedBack_newest _ _ hn) hfar
  · exact exec_readLog_notFound (head := 1 :: bigEndian 2 number.toNat) h rfl hoffset
      (selectedBack_number _ _ _) hfar
  · exact exec_edit (k := .clearLog) rfl hedit rfl rfl rfl rfl

/-! ### DEFINE PULSE INPUT and READ PULSE INPUT -/

/-- The arguments of DEFINE PULSE INPUT that spell a definition (R61). -/
def pulseDefArgs (n : InputId) (d : PulseDef) (discard : Bool) : List Byte :=
  [byte n.val, boolCode d.enabled, boolCode d.activeHigh, boolCode d.pullUp, byte d.spacing,
    byte d.rearmTime, byte d.quantity.val] ++ packedDecimal 2 d.mantissa
    ++ [byte d.fraction, byte d.threshold, boolCode discard]

theorem packedDecimal_two (v : Nat) : ∃ a b : Byte, packedDecimal 2 v = [a, b] :=
  List.length_eq_two.mp (length_packedDecimal 2 v)

theorem parsePulseDef_args (n : InputId) {d : PulseDef} (discard : Bool) (hs : 1 ≤ d.spacing)
    (hs' : d.spacing ≤ 8) (hr : 1 ≤ d.rearmTime) (hr' : d.rearmTime ≤ 255) (hm : 1 ≤ d.mantissa)
    (hm' : d.mantissa ≤ 9999) (hf : d.fraction ≤ 3) (ht : 1 ≤ d.threshold) (ht' : d.threshold ≤ 255) :
    parsePulseDef (pulseDefArgs n d discard) = some (d, discard) := by
  have hmantissa : packedInRange 1 9999 (packedDecimal 2 d.mantissa) = some d.mantissa := by
    rw [packedInRange, parsePacked_packedDecimal, Nat.mod_eq_of_lt (by omega)]
    exact inRange_eq_some hm hm'
  obtain ⟨a, b, hab⟩ := packedDecimal_two d.mantissa
  unfold parsePulseDef pulseDefArgs
  rw [hab] at hmantissa ⊢
  have hbytes : ∀ c1 c2 c3 c4 c5 c6 c7 c8 c9 c10 : Byte,
      argBytes ([c1, c2, c3, c4, c5, c6, c7] ++ [a, b] ++ [c8, c9, c10]) 7 2 = [a, b] :=
    fun _ _ _ _ _ _ _ _ _ _ => rfl
  rw [hbytes, hmantissa]
  simp only [List.cons_append, List.nil_append, arg_cons_zero, arg_cons_succ, boolOfByte_boolCode,
    inRange_byte hs hs' (by decide), inRange_byte hr hr' (by decide), quantityOfByte_byte,
    inRange_byte (Nat.zero_le _) hf (by decide), inRange_byte ht ht' (by decide),
    Option.bind_eq_bind, Option.bind_some]
  rfl

theorem dispatched_definePulseInput (p : PortId) (n : InputId) {d : PulseDef} {discard : Bool}
    (s : State) (hparse : parsePulseDef (pulseDefArgs n d discard) = some (d, discard)) :
    dispatched p ⟨.definePulseInput, pulseDefArgs n d discard⟩ s
      = if d.enabled ∧ s.store.quantities[d.quantity].defined = false then refuse s .badArgument
        else if discard = false
          ∧ (s.store.pulseCounts[n].pending ≠ 0 ∨ s.store.pulseCounts[n].remainder ≠ 0) then
          refuse s .conflict
        else answer (onInput n (restarted d.enabled) (onConfiguration (fun st => { st with
            pulseDefs := st.pulseDefs.set n d
            pulseCounts := st.pulseCounts.set n zeroPulseCount }) s)) .ok
          (bigEndian 2 s.store.pulseCounts[n].pending
            ++ packedDecimal 2 s.store.pulseCounts[n].remainder) := by
  have hinput : finOfByte 8 (arg (pulseDefArgs n d discard) 0) = some n := quantityOfByte_byte n
  simp only [dispatched, doDefinePulseInput, hinput, hparse]

theorem lengthAllowed_pulseDefArgs (n : InputId) (d : PulseDef) (discard : Bool) :
    lengthAllowed .definePulseInput (pulseDefArgs n d discard).length = true := by
  simp [lengthAllowed, pulseDefArgs, length_packedDecimal]

/-- A byte of no decimal digits (R162). -/
theorem parsePacked_eq_none {bs : List Byte} {b : Byte} (hb : b ∈ bs)
    (h : 9 < b.toNat / 16 ∨ 9 < b.toNat % 16) : parsePacked bs = none := by
  refine if_neg fun hall => ?_
  have := List.all_eq_true.mp hall b hb
  rw [Bool.and_eq_true, decide_eq_true_eq, decide_eq_true_eq] at this
  omega

theorem two_args (args : List Byte) (h : args.length = 12) :
    argBytes args 7 2 = [arg args 7, arg args 8] := by
  obtain ⟨a, b, c, d, e, f, g, x, y, z, u, v, rfl⟩ : ∃ a b c d e f g x y z u v : Byte,
      args = [a, b, c, d, e, f, g, x, y, z, u, v] := by
    match args, h with
    | [a, b, c, d, e, f, g, x, y, z, u, v], _ => exact ⟨a, b, c, d, e, f, g, x, y, z, u, v, rfl⟩
  rfl

/-- The arguments after the input's number that give no definition (R61 check 1). -/
theorem parsePulseDef_eq_none {args : List Byte} (hlen : args.length = 12)
    (h : 1 < (arg args 1).toNat ∨ 1 < (arg args 2).toNat ∨ 1 < (arg args 3).toNat
      ∨ (arg args 4).toNat = 0 ∨ 8 < (arg args 4).toNat ∨ (arg args 5).toNat = 0
      ∨ 7 < (arg args 6).toNat
      ∨ (9 < (arg args 7).toNat / 16 ∨ 9 < (arg args 7).toNat % 16)
      ∨ (9 < (arg args 8).toNat / 16 ∨ 9 < (arg args 8).toNat % 16)
      ∨ ((arg args 7).toNat = 0 ∧ (arg args 8).toNat = 0) ∨ 3 < (arg args 9).toNat
      ∨ (arg args 10).toNat = 0 ∨ 1 < (arg args 11).toNat) :
    parsePulseDef args = none := by
  refine Option.eq_none_iff_forall_ne_some.mpr fun x hx => ?_
  simp only [parsePulseDef, Option.bind_eq_bind, Option.bind_eq_some_iff, two_args args hlen] at hx
  obtain ⟨e, he, a, ha, u, hu, sp, hsp, r, hr, q, hq, m, hm, f, hf, t, ht, dc, hdc, _⟩ := hx
  have hbool : ∀ {b : Byte} {v : Bool}, boolOfByte b = some v → ¬ 1 < b.toNat := fun hv h => by
    rw [boolOfByte_eq_none h] at hv; exact nomatch hv
  have hrange : ∀ {lo hi n m : Nat}, inRange lo hi n = some m → lo ≤ n ∧ n ≤ hi := fun {lo hi n m} h => by
    by_contra hc
    rw [inRange_eq_none (by omega)] at h
    exact nomatch h
  have hmantissa : ∀ {b : Byte}, b ∈ [arg args 7, arg args 8] →
      ¬(9 < b.toNat / 16 ∨ 9 < b.toNat % 16) := fun hb h => by
    rw [packedInRange, parsePacked_eq_none hb h] at hm; exact nomatch hm
  have hzero : ¬((arg args 7).toNat = 0 ∧ (arg args 8).toNat = 0) := by
    rintro ⟨h7, h8⟩
    rw [BitVec.eq_of_toNat_eq (y := 0#8) h7, BitVec.eq_of_toNat_eq (y := 0#8) h8] at hm
    exact nomatch (show packedInRange 1 9999 [0#8, 0#8] = none by decide).symm.trans hm
  have hquantity : ¬ 7 < (arg args 6).toNat := fun h => by
    rw [finOfByte_eq_none h] at hq; exact nomatch hq
  have h7 := hmantissa (b := arg args 7) (by simp)
  have h8 := hmantissa (b := arg args 8) (by simp)
  have := hbool he; have := hbool ha; have := hbool hu; have := hbool hdc
  have := hrange hsp; have := hrange hr; have := hrange hf; have := hrange ht
  omega

/-- Settles O26, from the argument bytes back to the definition. -/
theorem pulseInputDefinedAndRead : Obligations.PulseInputDefinedAndRead := by
  intro p n s c
  refine ⟨fun d discard h hs hs' hr hr' hm hm' hf ht ht' => ?_, fun args h hlen => ?_, fun clear h => ?_⟩
  · intro defines row
    have hd := dispatched_definePulseInput p n s
      (parsePulseDef_args n discard hs hs' hr hr' hm hm' hf ht ht')
    have hdefines : ¬(d.enabled = true ∧ s.store.quantities[d.quantity].defined = false) ↔ defines := by
      rw [not_and, Bool.not_eq_false]
    have hl := lengthAllowed_pulseDefArgs n d discard
    refine ⟨fun hundef => ?_, fun hdef hfree => ?_, fun hdef hkept hcount => ?_⟩
    · rw [if_pos (not_not.mp (mt hdefines.mp hundef))] at hd
      exact exec_edit rfl h rfl hl hd rfl
    · rw [if_neg (hdefines.mpr hdef), if_neg] at hd
      · exact exec_edit rfl h rfl hl hd rfl
      · rintro ⟨hkept, hcount⟩
        rcases hfree with hfree | ⟨hp, hrem⟩
        · exact nomatch hkept.symm.trans hfree
        · exact hcount.elim (fun h => h hp) fun h => h hrem
    · rw [if_neg (hdefines.mpr hdef), if_pos ⟨hkept, hcount⟩] at hd
      exact exec_edit rfl h rfl hl hd rfl
  · intro num notDecimal hbad
    refine exec_edit (k := .definePulseInput) rfl h rfl (by simp [lengthAllowed, hlen]) ?_ rfl
    show doDefinePulseInput p args s = refuse s .badArgument
    unfold doDefinePulseInput
    rcases hbad with hn | hbad
    · rw [finOfByte_eq_none hn]
    · rw [parsePulseDef_eq_none hlen hbad]
      cases finOfByte 8 (arg args 0) <;> rfl
  · refine exec_free (k := .readPulseInput) rfl h rfl rfl ?_ (by cases clear <;> rfl)
    simp only [dispatched, doReadPulseInput, arg_cons_zero, arg_cons_succ, quantityOfByte_byte,
      boolOfByte_boolCode]
    cases clear <;> rfl

end Sys2Proof.Machine
end

section
/-! One sample of one pulse input (R48 to R54): the input, its counts and the notice that the sample leaves. -/

namespace Sys2Proof.Machine

/-! ### Notices raised in a row -/

/-- The state in which notices have been raised in order. -/
def raised (ns : List Notice) (s : State) : State := ns.foldl (fun s n => raise n s) s

@[simp] theorem raised_nil (s : State) : raised [] s = s := rfl

theorem raised_singleton (n : Notice) (s : State) : raised [n] s = raise n s := rfl

theorem raised_append (a b : List Notice) (s : State) :
    raised (a ++ b) s = raised b (raised a s) := List.foldl_append

theorem raised_port (ns : List Notice) (s : State) (p : PortId) :
    (raised ns s).ports[p] = told s ns p := foldl_raise_port ns s p

theorem raised_frame (ns : List Notice) (s : State) :
    raised ns s = { s with ports := (raised ns s).ports } := by
  obtain ⟨ps, h⟩ := foldl_raise_frame ns s
  show raised ns s = _
  rw [show raised ns s = _ from h]

/-- What a port is told does not depend on the inputs and the store. -/
theorem raised_update (ns : List Notice) (s : State) (st : Store) (is : Vector InputRun 8) :
    raised ns { s with store := st, inputs := is }
      = { raised ns s with store := st, inputs := is } := by
  refine eq_of_ports ?_ fun p => ?_
  · rw [raised_frame, raised_frame ns s]
  · rw [raised_port]
    exact (raised_port ns s p).symm

/-! ### A judged pulse counted -/

/-- The counts after a judged pulse: the pending count raised, or the flag set at 65535 (R53, R54). -/
def counted (c : PulseCount) : PulseCount :=
  { c with
    pending := if c.pending < 65535 then c.pending + 1 else c.pending
    saturated := c.saturated || decide (65535 ≤ c.pending) }

/-- Whether a judged pulse is lost with a change of the flag, so that its notice is raised (R54). -/
def losesFirst (c : PulseCount) : Bool := decide (65535 ≤ c.pending) && !c.saturated

theorem losesFirst_withNoise (c : PulseCount) (m : Nat) :
    losesFirst { c with noise := m } = losesFirst c := rfl

theorem counted_of_room {c : PulseCount} (h : c.pending < 65535) :
    counted c = { c with pending := c.pending + 1 } := by
  unfold counted
  rw [if_pos h, decide_eq_false (by omega), Bool.or_false]

theorem counted_of_full {c : PulseCount} (h : ¬ c.pending < 65535) :
    counted c = { c with saturated := true } := by
  unfold counted
  rw [if_neg h, decide_eq_true (by omega), Bool.or_true]

theorem onCount_eq (n : InputId) (f : PulseCount → PulseCount) (s : State) : onCount n f s
    = { s with store := { s.store with
        pulseCounts := s.store.pulseCounts.set n (f s.store.pulseCounts[n]) } } := rfl

theorem onCount_congr {n : InputId} {f g : PulseCount → PulseCount} {s : State}
    (h : f s.store.pulseCounts[n] = g s.store.pulseCounts[n]) : onCount n f s = onCount n g s := by
  rw [onCount_eq, onCount_eq, h]

theorem onCount_self {n : InputId} {f : PulseCount → PulseCount} {s : State}
    (h : f s.store.pulseCounts[n] = s.store.pulseCounts[n]) : onCount n f s = s := by
  rw [onCount_eq, h]
  have hself : s.store.pulseCounts.set n s.store.pulseCounts[n] = s.store.pulseCounts :=
    Vector.set_getElem_self _
  rw [hself]

theorem onCount_onCount (n : InputId) (f g : PulseCount → PulseCount) (s : State) :
    onCount n f (onCount n g s) = onCount n (fun c => f (g c)) s := by
  have h : (onCount n g s).store.pulseCounts[n] = g s.store.pulseCounts[n] := get_set_self _ _ _
  rw [onCount_eq n f, h, onCount_eq, onCount_eq]
  dsimp only
  rw [Vector.set_set]

theorem countPulse_eq (n : InputId) (s : State) : countPulse n s
    = raised (if losesFirst s.store.pulseCounts[n] then
        [pulseNotice n s.store.pulseDefs[n].quantity s.store.pulseCounts[n].noise
          s.store.pulseCounts[n].reject] else []) (onCount n counted s) := by
  unfold countPulse losesFirst pendingLimit
  dsimp only
  by_cases hroom : s.store.pulseCounts[n].pending < 65535
  · rw [if_pos hroom, decide_eq_false (by omega), Bool.false_and, if_neg (by decide), raised_nil]
    exact (onCount_congr (counted_of_room hroom)).symm
  · rw [if_neg hroom, decide_eq_true (by omega), Bool.true_and]
    by_cases hsat : s.store.pulseCounts[n].saturated = true
    · rw [if_pos hsat, hsat, if_neg (by decide), raised_nil]
      refine (onCount_self ?_).symm
      rw [counted_of_full hroom, ← hsat]
    · rw [if_neg hsat, Bool.eq_false_iff.mpr hsat, if_pos (by decide), raised_singleton]
      exact congrArg _ (onCount_congr (counted_of_full hroom)).symm

/-! ### The judgement -/

/-- The counts after a judgement with a number of active samples (R50). -/
def judged (total : Nat) (c : PulseCount) : PulseCount :=
  if total < 2 then { c with reject := min (c.reject + 1) 255 }
  else counted { c with noise := if total = 2 then min (c.noise + 1) 255 else c.noise }

/-- The notice that a judgement raises, the noise count in it after the judgement (R54, log 22). -/
def judgedNotice (n : InputId) (q : Quantity) (total : Nat) (c : PulseCount) : Option Notice :=
  if 2 ≤ total ∧ losesFirst c = true then some (pulseNotice n q (judged total c).noise c.reject)
  else none

theorem onInput_raised (n : InputId) (f : InputRun → InputRun) (ns : List Notice) (s : State) :
    onInput n f (raised ns s) = raised ns (onInput n f s) := by
  have h := raised_update ns s s.store (s.inputs.set n (f s.inputs[n]))
  refine Eq.trans ?_ h.symm
  rw [raised_frame]
  rfl

theorem judgePulse_eq (n : InputId) (s : State) {total : Nat}
    (ht : s.inputs[n].samplesActive = total) : judgePulse n s
    = raised (judgedNotice n s.store.pulseDefs[n].quantity total s.store.pulseCounts[n]).toList
        (onInput n (fun i => { i with frontEnd := if 2 ≤ total then .latched else .armed })
          (onCount n (judged total) s)) := by
  have hget : (onCount n (fun c => { c with noise := min (c.noise + 1) 255 }) s).store.pulseCounts[n]
      = { s.store.pulseCounts[n] with noise := min (s.store.pulseCounts[n].noise + 1) 255 } :=
    get_set_self _ _ _
  unfold judgePulse
  rw [ht]
  match total with
  | 0 | 1 => rfl
  | 2 =>
    simp only [countPulse_eq, hget, losesFirst_withNoise, onInput_raised, onCount_onCount,
      judgedNotice]
    by_cases hl : losesFirst s.store.pulseCounts[n] = true
    · rw [if_pos hl, if_pos ⟨le_refl 2, hl⟩]
      rfl
    · rw [if_neg hl, if_neg fun h => hl h.2]
      rfl
  | k + 3 =>
    have hk : judged (k + 3) = counted := by
      funext c
      unfold judged
      rw [if_neg (by omega), if_neg (by omega)]
    have h2 : 2 ≤ k + 3 := by omega
    simp only [countPulse_eq, onInput_raised, judgedNotice, hk, h2, true_and]
    by_cases hl : losesFirst s.store.pulseCounts[n] = true
    · rw [if_pos hl, if_pos hl]; rfl
    · rw [if_neg hl, if_neg hl]; rfl

/-! ### One sample -/

/-- An input after one sample of its pin (R48 to R52). -/
def inputAfter (d : PulseDef) (high : Bool) (i : InputRun) : InputRun :=
  if d.enabled then
    let j := sampled d (judgedActive d high) i
    if judgementDue d i then { j with frontEnd := if 2 ≤ j.samplesActive then .latched else .armed }
    else j
  else i

/-- Its counts after that sample (R50, R53). -/
def countAfter (d : PulseDef) (high : Bool) (i : InputRun) (c : PulseCount) : PulseCount :=
  if d.enabled ∧ judgementDue d i then judged (sampled d (judgedActive d high) i).samplesActive c else c

/-- The notice that the sample raises (R54). -/
def noticeAfter (n : InputId) (d : PulseDef) (high : Bool) (i : InputRun) (c : PulseCount) :
    Option Notice :=
  if d.enabled ∧ judgementDue d i then
    judgedNotice n d.quantity (sampled d (judgedActive d high) i).samplesActive c
  else none

theorem onInput_onInput (n : InputId) (f g : InputRun → InputRun) (s : State) :
    onInput n f (onInput n g s) = onInput n (fun i => f (g i)) s := by
  have h : (onInput n g s).inputs[n] = g s.inputs[n] := get_set_self _ _ _
  rw [onInput, h, onInput, onInput]
  dsimp only
  rw [Vector.set_set]

theorem onInput_congr {n : InputId} {f g : InputRun → InputRun} {s : State}
    (h : f s.inputs[n] = g s.inputs[n]) : onInput n f s = onInput n g s := by
  unfold onInput
  rw [h]

theorem onInput_self {n : InputId} {f : InputRun → InputRun} {s : State}
    (h : f s.inputs[n] = s.inputs[n]) : onInput n f s = s := by
  unfold onInput
  rw [h]
  have hself : s.inputs.set n s.inputs[n] = s.inputs := Vector.set_getElem_self _
  rw [hself]

/-- What one sample does: the input, its counts, and the notice. -/
theorem sampleInput_eq (n : InputId) (high : Bool) (s : State) : sampleInput n high s
    = raised (noticeAfter n s.store.pulseDefs[n] high s.inputs[n] s.store.pulseCounts[n]).toList
        (onInput n (inputAfter s.store.pulseDefs[n] high)
          (onCount n (countAfter s.store.pulseDefs[n] high s.inputs[n]) s)) := by
  unfold sampleInput
  dsimp only
  by_cases hen : s.store.pulseDefs[n].enabled = true
  · rw [if_pos hen]
    by_cases hdue : judgementDue s.store.pulseDefs[n] s.inputs[n] = true
    · rw [if_pos hdue, judgePulse_eq n _ (congrArg InputRun.samplesActive (get_set_self _ n _))]
      have hn : noticeAfter n s.store.pulseDefs[n] high s.inputs[n] s.store.pulseCounts[n]
          = judgedNotice n s.store.pulseDefs[n].quantity (sampled s.store.pulseDefs[n]
            (judgedActive s.store.pulseDefs[n] high) s.inputs[n]).samplesActive
            s.store.pulseCounts[n] := if_pos ⟨hen, hdue⟩
      rw [hn]
      refine congrArg _ ?_
      rw [show ∀ g f, onCount n g (onInput n f s) = onInput n f (onCount n g s) from fun _ _ => rfl,
        onInput_onInput]
      refine (onInput_congr ?_).trans (congrArg _ (onCount_congr (if_pos ⟨hen, hdue⟩).symm))
      show _ = inputAfter s.store.pulseDefs[n] high s.inputs[n]
      unfold inputAfter
      rw [if_pos hen, if_pos hdue]
      rfl
    · have hno : ¬(s.store.pulseDefs[n].enabled = true
          ∧ judgementDue s.store.pulseDefs[n] s.inputs[n] = true) := fun h => hdue h.2
      have hn : noticeAfter n s.store.pulseDefs[n] high s.inputs[n] s.store.pulseCounts[n] = none :=
        if_neg hno
      have hc : onCount n (countAfter s.store.pulseDefs[n] high s.inputs[n]) s = s :=
        onCount_self (if_neg hno)
      rw [if_neg hdue, hn, hc]
      refine onInput_congr ?_
      unfold inputAfter
      rw [if_pos hen, if_neg hdue]
  · have hno : ¬(s.store.pulseDefs[n].enabled = true
        ∧ judgementDue s.store.pulseDefs[n] s.inputs[n] = true) := fun h => hen h.1
    have hn : noticeAfter n s.store.pulseDefs[n] high s.inputs[n] s.store.pulseCounts[n] = none :=
      if_neg hno
    have hc : onCount n (countAfter s.store.pulseDefs[n] high s.inputs[n]) s = s :=
      onCount_self (if_neg hno)
    rw [if_neg hen, hn, hc]
    exact (onInput_self (if_neg hen)).symm

/-! ### PULSE JUDGEMENT -/

theorem judgementDue_iff (d : PulseDef) (i : InputRun) : judgementDue d i = true ↔
    i.frontEnd = .verifying ∧ i.samplesTaken = 2 ∧ i.elapsed + 1 = d.spacing * 3 := by
  simp only [judgementDue, Bool.and_eq_true, beq_iff_eq, and_assoc]

/-- The third verification sample (R50). -/
theorem sampled_of_due {d : PulseDef} {i : InputRun} (h : judgementDue d i = true) (active : Bool) :
    sampled d active i = { i with lastActive := active, elapsed := i.elapsed + 1
                                  samplesTaken := i.samplesTaken + 1
                                  samplesActive := i.samplesActive + active.toNat } := by
  obtain ⟨hfront, htaken, helapsed⟩ := (judgementDue_iff d i).mp h
  unfold sampled
  rw [hfront]
  dsimp only
  rw [if_pos (by rw [htaken]; exact helapsed)]

theorem exec_pulseJudgement {n : InputId} {s : State} (high : Bool) (hf : sampleFalls s = true)
    (he : TickPart.input n ∉ s.prescaler.early) (hen : s.store.pulseDefs[n].enabled = true)
    (hdue : judgementDue s.store.pulseDefs[n] s.inputs[n] = true) :
    exec (.pulseJudgement n high) s = .next (takeEarly (.input n) (sampleInput n high s)) := by
  show Host.Outcome.next (if _ then _ else _) = _
  rw [if_pos ⟨hf, (takenEarly_false_iff _ s).mpr he, hen, hdue⟩]

/-- The state after one sample, its changes named. -/
theorem sampleInput_frame (n : InputId) (high : Bool) (s : State) : ∃ ps, sampleInput n high s
    = { onInput n (inputAfter s.store.pulseDefs[n] high)
          (onCount n (countAfter s.store.pulseDefs[n] high s.inputs[n]) s) with ports := ps }
    ∧ ∀ p : PortId, ps[p] = told s
      (noticeAfter n s.store.pulseDefs[n] high s.inputs[n] s.store.pulseCounts[n]).toList p := by
  refine ⟨(sampleInput n high s).ports, ?_, fun p => ?_⟩
  · rw [sampleInput_eq, raised_frame]
  · rw [sampleInput_eq, raised_port]; rfl

theorem sampleInput_input_self (n : InputId) (high : Bool) (s : State) :
    (sampleInput n high s).inputs[n] = inputAfter s.store.pulseDefs[n] high s.inputs[n] := by
  rw [sampleInput_eq, raised_frame]
  exact get_set_self _ n _

theorem sampleInput_count_self (n : InputId) (high : Bool) (s : State) :
    (sampleInput n high s).store.pulseCounts[n]
      = countAfter s.store.pulseDefs[n] high s.inputs[n] s.store.pulseCounts[n] := by
  rw [sampleInput_eq, raised_frame]
  exact get_set_self _ n _

/-- Settles O23, by the number of active samples. -/
theorem pulseJudgementCountsOrRejects : Obligations.PulseJudgementCountsOrRejects := by
  intro n high s hf he hen hdue _ c active total
  obtain ⟨ps, hs, hps⟩ := sampleInput_frame n high s
  have htotal : (sampled s.store.pulseDefs[n] (judgedActive s.store.pulseDefs[n] high)
      s.inputs[n]).samplesActive = total := by rw [sampled_of_due hdue]; rfl
  have hinput : inputAfter s.store.pulseDefs[n] high s.inputs[n]
      = { s.inputs[n] with
          frontEnd := if 2 ≤ total then .latched else .armed
          lastActive := active, elapsed := s.inputs[n].elapsed + 1
          samplesTaken := s.inputs[n].samplesTaken + 1, samplesActive := total } := by
    unfold inputAfter
    rw [if_pos hen]
    dsimp only
    rw [if_pos hdue, sampled_of_due hdue]
    rfl
  have hcount : countAfter s.store.pulseDefs[n] high s.inputs[n] c = judged total c := by
    unfold countAfter
    rw [if_pos ⟨hen, hdue⟩, htotal]
  have hnotice : noticeAfter n s.store.pulseDefs[n] high s.inputs[n] c
      = judgedNotice n s.store.pulseDefs[n].quantity total c := by
    unfold noticeAfter
    rw [if_pos ⟨hen, hdue⟩, htotal]
  have hloses : losesFirst c = true ↔ 65535 ≤ c.pending ∧ c.saturated = false := by
    unfold losesFirst
    rw [Bool.and_eq_true, decide_eq_true_eq, Bool.not_eq_true']
  have htinput := sampleInput_input_self n high s
  have htcount := (sampleInput_count_self n high s).trans hcount
  have htports : (sampleInput n high s).ports = ps := by rw [hs]
  rw [exec_pulseJudgement high hf he hen hdue]
  refine ⟨_, rfl, ?_, ?_, fun m hm => ?_, fun ht => ?_, fun ht => ?_, fun hkept => ?_, fun p => ?_, ?_,
    ?_⟩
  · exact congrArg InputRun.frontEnd (htinput.trans hinput)
  · exact congrArg InputRun.lastActive (htinput.trans hinput)
  · show (sampleInput n high s).inputs[m] = _ ∧ (sampleInput n high s).store.pulseCounts[m] = _
    rw [hs]
    exact ⟨get_set_ne _ (Ne.symm hm) _, get_set_ne _ (Ne.symm hm) _⟩
  · exact htcount.trans (if_pos ht)
  · exact htcount.trans (if_neg (Nat.not_lt.mpr ht))
  · show (sampleInput n high s).ports = _
    rw [htports]
    refine Vector.ext fun k hk => (hps ⟨k, hk⟩).trans ?_
    have hno : judgedNotice n s.store.pulseDefs[n].quantity total c = none := by
      refine if_neg fun ⟨_, hl⟩ => ?_
      obtain ⟨hfull, hsat⟩ := hloses.mp hl
      rcases hkept with hk | hk
      · exact absurd hk (Nat.not_lt.mpr hfull)
      · exact nomatch hsat.symm.trans hk
    rw [hnotice, hno]
    exact told_nil s ⟨k, hk⟩
  · show (sampleInput n high s).ports[p] = told s (if 2 ≤ total ∧ _ then
      [⟨.pulse, _, _, byte (sampleInput n high s).store.pulseCounts[n].noise, _, _⟩] else []) p
    rw [htports, hps p, hnotice, htcount]
    refine congrArg (told s · p) ?_
    unfold judgedNotice
    simp only [hloses]
    split <;> rfl
  · show { (sampleInput n high s).prescaler with
      early := .input n :: (sampleInput n high s).prescaler.early } = _
    rw [hs]
    rfl
  · show takeEarly _ (sampleInput n high s) = _
    rw [hs]
    rfl

/-! ### REARM COMPLETE -/

/-- The inactive sample that completes the rearm (R51, R52). -/
theorem inputAfter_of_rearmDue {d : PulseDef} {i : InputRun} (h : rearmDue d i = true) :
    inputAfter d (!d.activeHigh) i
      = { i with frontEnd := .armed, lastActive := false, rearmCount := 0 } := by
  simp only [rearmDue, Bool.and_eq_true, Bool.or_eq_true, beq_iff_eq, decide_eq_true_eq] at h
  obtain ⟨hen, hfront⟩ := h
  have hinactive : judgedActive d (!d.activeHigh) = false := by
    unfold judgedActive
    cases d.activeHigh <;> rfl
  have hdue : judgementDue d i = false := by
    rw [← Bool.not_eq_true, judgementDue_iff]
    rintro ⟨hv, _⟩
    rcases hfront with ⟨hr, _⟩ | ⟨hr, _⟩ <;> exact nomatch hv.symm.trans hr
  unfold inputAfter
  rw [if_pos hen, hdue, hinactive]
  unfold sampled
  rcases hfront with ⟨hr, hle⟩ | ⟨hr, hle⟩ <;> rw [hr] <;> exact if_pos hle

theorem countAfter_of_not_due {d : PulseDef} {i : InputRun} (high : Bool) (c : PulseCount)
    (h : judgementDue d i = false) : countAfter d high i c = c :=
  if_neg fun hd => by rw [h] at hd; exact nomatch hd.2

/-- Settles O24, by what a sample does to an input that rearms. -/
theorem rearmCompleteArms : Obligations.RearmCompleteArms := by
  intro n s hf he hdue
  have hnot : ¬(s.store.pulseDefs[n].enabled = true
      ∧ judgementDue s.store.pulseDefs[n] s.inputs[n] = true) := by
    rintro ⟨_, hj⟩
    obtain ⟨hv, _⟩ := (judgementDue_iff _ _).mp hj
    simp only [rearmDue, Bool.and_eq_true, Bool.or_eq_true, beq_iff_eq] at hdue
    rcases hdue.2 with ⟨hr, _⟩ | ⟨hr, _⟩ <;> exact nomatch hv.symm.trans hr
  have hnotice : noticeAfter n s.store.pulseDefs[n] (!s.store.pulseDefs[n].activeHigh) s.inputs[n]
      s.store.pulseCounts[n] = none := if_neg hnot
  have hcount : onCount n (countAfter s.store.pulseDefs[n] (!s.store.pulseDefs[n].activeHigh)
      s.inputs[n]) s = s := onCount_self (if_neg hnot)
  show Host.Outcome.next (if _ then _ else _) = _
  rw [if_pos ⟨hf, (takenEarly_false_iff _ s).mpr he, hdue⟩, sampleInput_eq, hnotice, hcount]
  show Host.Outcome.next (takeEarly (.input n) (onInput n _ s)) = _
  rw [onInput_congr (g := fun i => { i with frontEnd := .armed, lastActive := false, rearmCount := 0 })
    (inputAfter_of_rearmDue hdue)]
  rfl

end Sys2Proof.Machine
end

section
/-! CLOSEIN at a sample tick (R95 to R97), and the whole of a sample tick (R133). -/

namespace Sys2Proof.Machine

/-! ### The latch -/

/-- The conditions under which the period unit can take a close (R92). -/
def Unoccupied (s : State) : Prop := s.closeState = .idle ∧ s.store.mode = .run

/-- A set latch, acted on where CLOSEIN is sampled (R96, R97, R112). -/
structure LatchSampled (s : State) : Prop where
  latch : s.latch = true
  supply : s.supply = .runSupply
  lineMode : s.store.closeOptions.lineMode ≠ .off

theorem examineLatch_takes {s : State} (h : LatchSampled s) (hf : Unoccupied s)
    (hin : inhibitActive s = false) : examineLatch s = takeClose .line none s := by
  have hno : ¬ inhibitActive s = true := by rw [hin]; exact (nomatch ·)
  unfold examineLatch
  rw [if_pos ⟨h.latch, hf.1, hf.2, h.supply⟩]
  cases hm : s.store.closeOptions.lineMode with
  | off => exact absurd hm h.lineMode
  | edge | level => exact if_neg hno

theorem examineLatch_clears {s : State} (h : LatchSampled s) (hf : Unoccupied s)
    (hin : inhibitActive s = true) (hm : s.store.closeOptions.lineMode = .edge) :
    examineLatch s = { s with latch := false } := by
  unfold examineLatch
  rw [if_pos ⟨h.latch, hf.1, hf.2, h.supply⟩, hm]
  exact if_pos hin

theorem examineLatch_stays {s : State} (h : LatchSampled s)
    (hw : ¬ Unoccupied s
      ∨ (inhibitActive s = true ∧ s.store.closeOptions.lineMode = .level)) :
    examineLatch s = s := by
  by_cases hf : Unoccupied s
  · obtain ⟨hin, hm⟩ := hw.resolve_left (not_not.mpr hf)
    unfold examineLatch
    rw [if_pos ⟨h.latch, hf.1, hf.2, h.supply⟩, hm]
    exact if_pos hin
  · exact if_neg fun ⟨_, hidle, hrun, _⟩ => hf ⟨hidle, hrun⟩

theorem risingEdge_eq (s : State) : risingEdge s = { s with
    latch := if s.store.closeOptions.lineMode = .level then false else s.latch } := by
  unfold risingEdge
  split <;> rfl

/-! ### The recognizer -/

theorem recognized_level (r : Recognizer) (high : Bool) : (recognized r high).level
    = if 3 ≤ runLength r high then levelOf high else r.level := by
  unfold recognized
  by_cases hl : r.level = levelOf high
  · rw [if_pos hl]
    split
    next => exact hl
    next => rfl
  · rw [if_neg hl]
    split <;> rfl

theorem edgeOf_eq_falling (r : Recognizer) (high : Bool) : edgeOf r high = some .falling ↔
    r.level = .high ∧ high = false ∧ 3 ≤ runLength r high := by
  unfold edgeOf
  rw [recognized_level]
  by_cases h3 : 3 ≤ runLength r high
  · rw [if_pos h3]
    cases r.level <;> cases high <;> simp [levelOf, h3]
  · rw [if_neg h3]
    cases r.level <;> simp [h3]

theorem edgeOf_eq_rising (r : Recognizer) (high : Bool) : edgeOf r high = some .rising ↔
    r.level = .low ∧ high = true ∧ 3 ≤ runLength r high := by
  unfold edgeOf
  rw [recognized_level]
  by_cases h3 : 3 ≤ runLength r high
  · rw [if_pos h3]
    cases r.level <;> cases high <;> simp [levelOf, h3]
  · rw [if_neg h3]
    cases r.level <;> simp [h3]

/-! ### CLOSEIN sampled -/

theorem closeinSampled_iff (s : State) : closeinSampled s = true ↔
    s.store.closeOptions.lineMode ≠ .off ∧ s.store.mode ≠ .setup ∧ s.supply = .runSupply := by
  simp only [closeinSampled, Bool.and_eq_true, bne_iff_ne, beq_iff_eq, and_assoc]

theorem sampleCloseIn_of_not_sampled {s : State} {high : Bool} (h : ¬ closeinSampled s = true) :
    sampleCloseIn high s = s := if_neg h

theorem sampleCloseIn_falls {s : State} {high : Bool} (h : closeinSampled s = true)
    (he : edgeOf s.recognizer high = some .falling) : sampleCloseIn high s
      = examineLatch { s with recognizer := recognized s.recognizer high, latch := true } := by
  unfold sampleCloseIn
  rw [if_pos h]
  dsimp only
  rw [he]
  rfl

theorem sampleCloseIn_rises {s : State} {high : Bool} (h : closeinSampled s = true)
    (he : edgeOf s.recognizer high = some .rising) : sampleCloseIn high s
      = { s with
          recognizer := recognized s.recognizer high
          latch := if s.store.closeOptions.lineMode = .level then false else s.latch } := by
  unfold sampleCloseIn
  rw [if_pos h]
  dsimp only
  rw [he]
  exact risingEdge_eq _

theorem sampleCloseIn_quiet {s : State} {high : Bool} (h : closeinSampled s = true)
    (he : edgeOf s.recognizer high = none) :
    sampleCloseIn high s = { s with recognizer := recognized s.recognizer high } := by
  unfold sampleCloseIn
  rw [if_pos h]
  dsimp only
  rw [he]

/-- Settles O34, by the edge that is recognized and by what the period unit does with the latch. -/
theorem closeInEdgesActOnTheLatch : Obligations.CloseInEdgesActOnTheLatch := by
  intro s hf he hs hm m phase fallen free
  have htaken : takenEarly .closein s = false := (takenEarly_false_iff _ s).mpr he
  refine ⟨fun hoff hr => ?_, fun hoff hr => ?_⟩
  · have hsampled : closeinSampled s = true := (closeinSampled_iff s).mpr ⟨hoff, hm, hs⟩
    have hedge : edgeOf s.recognizer false = some .falling := by rw [hr]; rfl
    have hlow : recognized s.recognizer false = ⟨.low, false, 0⟩ := by rw [hr]; rfl
    let u : State := { s with recognizer := ⟨.low, false, 0⟩, latch := true }
    have hexec : exec .recognizedFallingEdge s = .next (takeEarly .closein (examineLatch u)) := by
      show Host.Outcome.next (if _ then _ else _) = _
      rw [if_pos ⟨hf, htaken, hsampled, hedge⟩, sampleCloseIn_falls hsampled hedge, hlow]
    have hlatch : LatchSampled u := ⟨rfl, hs, hoff⟩
    refine ⟨fun hfree hin => ?_, fun hfree hin hedgeMode => ?_, fun hwait => ?_⟩
    · rw [hexec, examineLatch_takes hlatch hfree hin]; rfl
    · rw [hexec, examineLatch_clears hlatch hfree hin hedgeMode]; rfl
    · rw [hexec, examineLatch_stays hlatch hwait]; rfl
  · have hsampled : closeinSampled s = true := (closeinSampled_iff s).mpr ⟨hoff, hm, hs⟩
    have hedge : edgeOf s.recognizer true = some .rising := by rw [hr]; rfl
    have hhigh : recognized s.recognizer true = ⟨.high, true, 0⟩ := by rw [hr]; rfl
    show Host.Outcome.next (if _ then _ else _) = _
    rw [if_pos ⟨hf, htaken, hsampled, hedge⟩, sampleCloseIn_rises hsampled hedge, hhigh]
    rfl

/-! ### The inputs at a sample tick -/

/-- Whether a sample tick reaches an input: not one whose share of it has been taken (log 4). -/
def reaches (s : State) (n : InputId) : Bool := !s.prescaler.early.contains (.input n)

/-- An input, its counts and its notice after its share of a sample tick. -/
def tickedInput (pls : BitVec 8) (s : State) (n : InputId) : InputRun :=
  if reaches s n then inputAfter s.store.pulseDefs[n] (pinHigh pls n) s.inputs[n] else s.inputs[n]

def tickedCount (pls : BitVec 8) (s : State) (n : InputId) : PulseCount :=
  if reaches s n then
    countAfter s.store.pulseDefs[n] (pinHigh pls n) s.inputs[n] s.store.pulseCounts[n]
  else s.store.pulseCounts[n]

def tickedNotice (pls : BitVec 8) (s : State) (n : InputId) : Option Notice :=
  if reaches s n then
    noticeAfter n s.store.pulseDefs[n] (pinHigh pls n) s.inputs[n] s.store.pulseCounts[n]
  else none

/-- The state with one input and its counts as they are after its share of a sample tick. -/
def inputTicked (pls : BitVec 8) (s : State) (n : InputId) : State :=
  onInput n (fun _ => tickedInput pls s n) (onCount n (fun _ => tickedCount pls s n) s)

theorem tickInput_eq (pls : BitVec 8) (s : State) (n : InputId) :
    tickInput pls s n = raised (tickedNotice pls s n).toList (inputTicked pls s n) := by
  unfold tickInput inputTicked tickedNotice tickedInput tickedCount reaches takenEarly
  by_cases h : s.prescaler.early.contains (.input n) = true
  · rw [if_pos h, h, if_neg (by decide), if_neg (by decide), if_neg (by decide), onCount_self rfl,
      onInput_self rfl]
    rfl
  · rw [if_neg h, Bool.eq_false_iff.mpr h, sampleInput_eq]
    rfl

theorem get_inputTicked (pls : BitVec 8) (s : State) (n m : InputId) :
    (inputTicked pls s n).inputs[m] = (if n = m then tickedInput pls s m else s.inputs[m])
    ∧ (inputTicked pls s n).store.pulseCounts[m]
      = if n = m then tickedCount pls s m else s.store.pulseCounts[m] := by
  constructor
  · refine (get_set s.inputs n m _).trans ?_
    split
    next h => rw [h]
    next => rfl
  · refine (get_set s.store.pulseCounts n m _).trans ?_
    split
    next h => rw [h]
    next => rfl

/-- The share of one input does not touch that of another. -/
theorem ticked_inputTicked_ne (pls : BitVec 8) (s : State) {n m : InputId} (h : n ≠ m) :
    tickedInput pls (inputTicked pls s n) m = tickedInput pls s m
    ∧ tickedCount pls (inputTicked pls s n) m = tickedCount pls s m
    ∧ tickedNotice pls (inputTicked pls s n) m = tickedNotice pls s m := by
  obtain ⟨hi, hc⟩ := get_inputTicked pls s n m
  rw [if_neg h] at hi hc
  unfold tickedInput tickedCount tickedNotice
  rw [hi, hc]
  exact ⟨rfl, rfl, rfl⟩

theorem filterMap_cons_eq {α β : Type} (f : α → Option β) (a : α) (l : List α) :
    (a :: l).filterMap f = (f a).toList ++ l.filterMap f := by
  rw [List.filterMap_cons]
  cases f a <;> rfl

/-- The inputs of a list, each once, at a sample tick: each has its share, and their notices are raised in
order. -/
theorem foldl_tickInput (pls : BitVec 8) {ns : List InputId} (hnd : ns.Nodup) (s : State) :
    ∃ (is : Vector InputRun 8) (cs : Vector PulseCount 8),
      ns.foldl (tickInput pls) s = raised (ns.filterMap (tickedNotice pls s))
        { s with store := { s.store with pulseCounts := cs }, inputs := is }
      ∧ ∀ m : InputId, is[m] = (if m ∈ ns then tickedInput pls s m else s.inputs[m])
        ∧ cs[m] = if m ∈ ns then tickedCount pls s m else s.store.pulseCounts[m] := by
  induction ns generalizing s with
  | nil =>
    refine ⟨s.inputs, s.store.pulseCounts, rfl, fun m => ?_⟩
    rw [if_neg (by simp), if_neg (by simp)]
    exact ⟨rfl, rfl⟩
  | cons n ns ih =>
    obtain ⟨hn, hns⟩ := List.nodup_cons.mp hnd
    obtain ⟨is, cs, hfold, hget⟩ := ih hns (tickInput pls s n)
    rw [tickInput_eq, raised_frame] at hfold hget
    refine ⟨is, cs, ?_, fun m => ?_⟩
    · have hne : ∀ m ∈ ns, n ≠ m := fun m hm h => hn (h ▸ hm)
      rw [List.foldl_cons, tickInput_eq, raised_frame, hfold, filterMap_cons_eq, raised_append]
      have hnotices : ns.filterMap (tickedNotice pls { inputTicked pls s n with
            ports := (raised (tickedNotice pls s n).toList (inputTicked pls s n)).ports })
          = ns.filterMap (tickedNotice pls s) := by
        refine List.filterMap_congr fun m hm => ?_
        exact (ticked_inputTicked_ne pls s (hne m hm)).2.2
      rw [hnotices]
      refine congrArg _ ?_
      have h1 := raised_update (tickedNotice pls s n).toList s { s.store with pulseCounts := cs } is
      have h2 := raised_update (tickedNotice pls s n).toList s (inputTicked pls s n).store
        (inputTicked pls s n).inputs
      have h2' : raised (tickedNotice pls s n).toList (inputTicked pls s n) = _ := h2
      rw [h1, h2', raised_frame]
      rfl
    · obtain ⟨hi, hc⟩ := hget m
      obtain ⟨hi', hc'⟩ := get_inputTicked pls s n m
      by_cases hnm : n = m
      · subst hnm
        rw [if_neg hn] at hi hc
        rw [if_pos rfl] at hi' hc'
        rw [if_pos (by simp), if_pos (by simp)]
        exact ⟨hi.trans hi', hc.trans hc'⟩
      · obtain ⟨hti, htc, _⟩ := ticked_inputTicked_ne pls s hnm
        rw [if_neg hnm] at hi' hc'
        have hmem : m ∈ n :: ns ↔ m ∈ ns := by simp [Ne.symm hnm]
        simp only [hmem]
        refine ⟨hi.trans (if_congr Iff.rfl hti hi'), hc.trans (if_congr Iff.rfl htc hc')⟩

end Sys2Proof.Machine
end

section
/-! The whole of a sample tick: every input, then CLOSEIN (R48 to R54, R95 to R97, R133). -/

namespace Sys2Proof.Machine

/-! ### CLOSEIN at the tick -/

/-- CLOSEIN is sampled at this tick, and not ahead of it. -/
def LineSampled (s : State) : Prop :=
  s.store.closeOptions.lineMode ≠ .off ∧ s.store.mode ≠ .setup ∧ s.supply = .runSupply
    ∧ TickPart.closein ∉ s.prescaler.early

theorem LineSampled.sampled {s : State} (h : LineSampled s) : closeinSampled s = true :=
  (closeinSampled_iff s).mpr ⟨h.1, h.2.1, h.2.2.1⟩

theorem tickCloseIn_of_sampled {s : State} (h : LineSampled s) (closein : Bool) :
    tickCloseIn closein s = sampleCloseIn closein s :=
  if_neg fun he => h.2.2.2 ((takenEarly_iff _ s).mp he)

theorem tickCloseIn_of_not_sampled {s : State} (h : ¬ LineSampled s) (closein : Bool) :
    tickCloseIn closein s = s := by
  unfold tickCloseIn
  split
  next => rfl
  next he =>
    refine sampleCloseIn_of_not_sampled fun hs => h ?_
    obtain ⟨hoff, hm, hr⟩ := (closeinSampled_iff s).mp hs
    exact ⟨hoff, hm, hr, fun hmem => he ((takenEarly_iff _ s).mpr hmem)⟩

/-- What an examined latch does not touch. -/
theorem examineLatch_keeps (s : State) : (examineLatch s).inputs = s.inputs
    ∧ (examineLatch s).ports = s.ports
    ∧ (examineLatch s).store.pulseCounts = s.store.pulseCounts
    ∧ (examineLatch s).recognizer = s.recognizer := by
  unfold examineLatch
  split
  next =>
    cases s.store.closeOptions.lineMode with
    | off => exact ⟨rfl, rfl, rfl, rfl⟩
    | edge | level => cases inhibitActive s <;> exact ⟨rfl, rfl, rfl, rfl⟩
  next => exact ⟨rfl, rfl, rfl, rfl⟩

theorem sampleCloseIn_keeps {s : State} (h : closeinSampled s = true) (closein : Bool) :
    (sampleCloseIn closein s).inputs = s.inputs ∧ (sampleCloseIn closein s).ports = s.ports
    ∧ (sampleCloseIn closein s).store.pulseCounts = s.store.pulseCounts
    ∧ (sampleCloseIn closein s).recognizer = recognized s.recognizer closein := by
  cases he : edgeOf s.recognizer closein with
  | none => rw [sampleCloseIn_quiet h he]; exact ⟨rfl, rfl, rfl, rfl⟩
  | some edge =>
    cases edge with
    | falling => rw [sampleCloseIn_falls h he]; exact examineLatch_keeps _
    | rising => rw [sampleCloseIn_rises h he]; exact ⟨rfl, rfl, rfl, rfl⟩

theorem tickCloseIn_keeps (s : State) (closein : Bool) :
    (tickCloseIn closein s).inputs = s.inputs ∧ (tickCloseIn closein s).ports = s.ports
    ∧ (tickCloseIn closein s).store.pulseCounts = s.store.pulseCounts := by
  by_cases h : LineSampled s
  · rw [tickCloseIn_of_sampled h]
    obtain ⟨hi, hp, hc, _⟩ := sampleCloseIn_keeps h.sampled closein
    exact ⟨hi, hp, hc⟩
  · rw [tickCloseIn_of_not_sampled h]
    exact ⟨rfl, rfl, rfl⟩

theorem tickCloseIn_recognizer {s : State} (h : LineSampled s) (closein : Bool) :
    (tickCloseIn closein s).recognizer = recognized s.recognizer closein := by
  rw [tickCloseIn_of_sampled h]
  obtain ⟨_, _, _, hr⟩ := sampleCloseIn_keeps h.sampled closein
  exact hr

/-- A recognized fall at a sample tick. -/
theorem tickCloseIn_falls {v : State} {closein : Bool} (h : LineSampled v)
    (he : edgeOf v.recognizer closein = some .falling) : tickCloseIn closein v
      = examineLatch { v with recognizer := recognized v.recognizer closein, latch := true } := by
  rw [tickCloseIn_of_sampled h, sampleCloseIn_falls h.sampled he]

theorem latchSampled_of_falls {v : State} (h : LineSampled v) (r : Recognizer) :
    LatchSampled { v with recognizer := r, latch := true } := ⟨rfl, h.2.2.1, h.1⟩

/-- Whether CLOSEIN is recognized as a fall at this tick, and whether as a rise. -/
def Falls (s : State) (closein : Bool) : Prop :=
  LineSampled s ∧ s.recognizer.level = .high ∧ closein = false ∧ 3 ≤ runLength s.recognizer closein

def Rises (s : State) (closein : Bool) : Prop :=
  LineSampled s ∧ s.recognizer.level = .low ∧ closein = true ∧ 3 ≤ runLength s.recognizer closein

section
variable {v t : State} {closein : Bool} {phase : Prescaler}

/-- The tick at CLOSEIN, where it is recognized as a fall: the latch is set and acted on. -/
theorem tick_of_falls (ht : t = { tickCloseIn closein v with prescaler := phase })
    (h : Falls v closein) : t = { examineLatch { v with
      recognizer := t.recognizer, latch := true } with prescaler := phase } := by
  obtain ⟨hs, hedge⟩ := h
  have hr : t.recognizer = recognized v.recognizer closein := by
    rw [ht]; exact tickCloseIn_recognizer hs closein
  rw [hr, ht, tickCloseIn_falls hs ((edgeOf_eq_falling _ _).mpr hedge)]

theorem tick_of_rises (ht : t = { tickCloseIn closein v with prescaler := phase })
    (h : Rises v closein) : t = { v with
      recognizer := t.recognizer, prescaler := phase
      latch := if v.store.closeOptions.lineMode = .level then false else v.latch } := by
  obtain ⟨hs, hedge⟩ := h
  have hr : t.recognizer = recognized v.recognizer closein := by
    rw [ht]; exact tickCloseIn_recognizer hs closein
  rw [hr, ht, tickCloseIn_of_sampled hs,
    sampleCloseIn_rises hs.sampled ((edgeOf_eq_rising _ _).mpr hedge)]

theorem tick_of_no_edge (ht : t = { tickCloseIn closein v with prescaler := phase })
    (hf : ¬ Falls v closein) (hr : ¬ Rises v closein) :
    t = { v with recognizer := t.recognizer, prescaler := phase } := by
  by_cases hs : LineSampled v
  · have hedge : edgeOf v.recognizer closein = none := by
      cases he : edgeOf v.recognizer closein with
      | none => rfl
      | some edge =>
        cases edge with
        | falling => exact absurd ⟨hs, (edgeOf_eq_falling _ _).mp he⟩ hf
        | rising => exact absurd ⟨hs, (edgeOf_eq_rising _ _).mp he⟩ hr
    rw [ht, tickCloseIn_of_sampled hs, sampleCloseIn_quiet hs.sampled hedge]
  · rw [ht, tickCloseIn_of_not_sampled hs]

end

/-! ### The inputs at the tick -/

theorem reaches_iff (s : State) (n : InputId) :
    reaches s n = true ↔ TickPart.input n ∉ s.prescaler.early := by
  unfold reaches
  rw [Bool.not_eq_true', ← Bool.not_eq_true, List.contains_iff_mem]

theorem ticked_of_unreached {pls : BitVec 8} {s : State} {n : InputId}
    (h : s.store.pulseDefs[n].enabled = false ∨ TickPart.input n ∈ s.prescaler.early) :
    tickedInput pls s n = s.inputs[n] ∧ tickedCount pls s n = s.store.pulseCounts[n] := by
  unfold tickedInput tickedCount inputAfter countAfter
  by_cases hr : reaches s n = true
  · have hen : ¬ s.store.pulseDefs[n].enabled = true := by
      rcases h with h | h
      · rw [h]; exact (nomatch ·)
      · exact absurd h ((reaches_iff s n).mp hr)
    rw [if_pos hr, if_pos hr, if_neg hen, if_neg fun h => hen h.1]
    exact ⟨rfl, rfl⟩
  · rw [if_neg hr, if_neg hr]
    exact ⟨rfl, rfl⟩

theorem ticked_of_reached {pls : BitVec 8} {s : State} {n : InputId}
    (h : TickPart.input n ∉ s.prescaler.early) :
    tickedInput pls s n = inputAfter s.store.pulseDefs[n] (pinHigh pls n) s.inputs[n]
    ∧ tickedCount pls s n
      = countAfter s.store.pulseDefs[n] (pinHigh pls n) s.inputs[n] s.store.pulseCounts[n] := by
  have hr := (reaches_iff s n).mpr h
  exact ⟨if_pos hr, if_pos hr⟩

/-- The notice of one input at a sample tick (R54). -/
theorem tickedNotice_eq (pls : BitVec 8) (s : State) (n : InputId) : tickedNotice pls s n
    = if s.store.pulseDefs[n].enabled = true ∧ s.prescaler.early.contains (.input n) = false
        ∧ judgementDue s.store.pulseDefs[n] s.inputs[n] = true
        ∧ 2 ≤ s.inputs[n].samplesActive
            + (pls.getLsbD n.val == s.store.pulseDefs[n].activeHigh).toNat
        ∧ 65535 ≤ s.store.pulseCounts[n].pending ∧ s.store.pulseCounts[n].saturated = false then
        some ⟨.pulse, byte n.val, byte s.store.pulseDefs[n].quantity.val,
          byte (tickedCount pls s n).noise, byte s.store.pulseCounts[n].reject, 0⟩
      else none := by
  have hloses : losesFirst s.store.pulseCounts[n] = true
      ↔ 65535 ≤ s.store.pulseCounts[n].pending ∧ s.store.pulseCounts[n].saturated = false := by
    unfold losesFirst
    rw [Bool.and_eq_true, decide_eq_true_eq, Bool.not_eq_true']
  unfold tickedNotice tickedCount
  by_cases hr : reaches s n = true
  · have he : s.prescaler.early.contains (.input n) = false := by
      unfold reaches at hr
      rwa [Bool.not_eq_true'] at hr
    rw [if_pos hr, if_pos hr]
    unfold noticeAfter countAfter
    by_cases hdue : s.store.pulseDefs[n].enabled = true
        ∧ judgementDue s.store.pulseDefs[n] s.inputs[n] = true
    · rw [if_pos hdue, if_pos hdue, sampled_of_due hdue.2]
      unfold judgedNotice
      exact if_congr ⟨fun ⟨h2, hl⟩ => ⟨hdue.1, he, hdue.2, h2, hloses.mp hl⟩,
        fun ⟨_, _, _, h2, hl⟩ => ⟨h2, hloses.mpr hl⟩⟩ rfl rfl
    · rw [if_neg hdue]
      exact (if_neg fun ⟨hen, _, hd, _⟩ => hdue ⟨hen, hd⟩).symm
  · rw [if_neg hr]
    refine (if_neg fun ⟨_, he, _⟩ => hr ?_).symm
    unfold reaches
    rw [he]
    rfl

theorem inputAfter_of_not_due {d : PulseDef} {i : InputRun} (high : Bool) (hen : d.enabled = true)
    (hdue : judgementDue d i = false) :
    inputAfter d high i = sampled d (judgedActive d high) i := by
  unfold inputAfter
  rw [if_pos hen, hdue]
  rfl

/-! ### The tick -/

/-- A sample tick where one falls: the inputs with their counts and notices, and then CLOSEIN. -/
theorem exec_sampleTick {s : State} (pls : BitVec 8) (closein : Bool) (hf : sampleFalls s = true) :
    ∃ (is : Vector InputRun 8) (ps : Vector Port 3) (cs : Vector PulseCount 8),
      exec (.sampleTick pls closein) s = .next { tickCloseIn closein { s with
          inputs := is, ports := ps, store := { s.store with pulseCounts := cs } } with
        prescaler := sampleCounted s.prescaler }
      ∧ (∀ n : InputId, is[n] = tickedInput pls s n ∧ cs[n] = tickedCount pls s n)
      ∧ ∀ p : PortId, ps[p] = told s ((List.finRange 8).filterMap (tickedNotice pls s)) p := by
  obtain ⟨is, cs, hfold, hget⟩ := foldl_tickInput pls (List.nodup_finRange 8) s
  rw [raised_frame] at hfold
  refine ⟨is, (raised ((List.finRange 8).filterMap (tickedNotice pls s)) { s with
    store := { s.store with pulseCounts := cs }, inputs := is }).ports, cs, ?_, fun n => ?_,
    fun p => raised_port _ _ p⟩
  · show Host.Outcome.next (if sampleFalls s then _ else s) = _
    rw [if_pos hf, hfold]
  · obtain ⟨hi, hc⟩ := hget n
    rw [if_pos (List.mem_finRange n)] at hi hc
    exact ⟨hi, hc⟩

/-- Settles O25, the eight inputs in order, each as it stood, then CLOSEIN. -/
theorem sampleTickSamplesEveryInput : Obligations.SampleTickSamplesEveryInput := by
  intro pls closein s
  refine ⟨fun hf => ?_, fun hf => ?_⟩
  · show Host.Outcome.next (if sampleFalls s then _ else s) = _
    rw [hf]
    rfl
  obtain ⟨is, ps, cs, hexec, hinputs, hports⟩ := exec_sampleTick pls closein hf
  let v : State := { s with inputs := is, ports := ps, store := { s.store with pulseCounts := cs } }
  let phase : Prescaler := sampleCounted s.prescaler
  let t : State := { tickCloseIn closein v with prescaler := phase }
  obtain ⟨hti, htp, htc⟩ : t.inputs = is ∧ t.ports = ps ∧ t.store.pulseCounts = cs :=
    tickCloseIn_keeps v closein
  refine ⟨t, hexec, rfl, fun n hn => ?_, fun n hen hn => ?_, ?_, fun p => ?_⟩
  · obtain ⟨hi, hc⟩ := hinputs n
    obtain ⟨hi', hc'⟩ := ticked_of_unreached (pls := pls) hn
    rw [hti, htc]
    exact ⟨hi.trans hi', hc.trans hc'⟩
  · obtain ⟨hi, hc⟩ := hinputs n
    obtain ⟨hi', hc'⟩ := ticked_of_reached (pls := pls) hn
    rw [hti, htc]
    refine ⟨fun hdue => ⟨_, exec_pulseJudgement _ hf hn hen hdue, ?_, ?_⟩, fun hdue => ⟨?_, ?_⟩⟩
    · exact (hi.trans hi').trans (sampleInput_input_self n _ s).symm
    · exact (hc.trans hc').trans (sampleInput_count_self n _ s).symm
    · exact (hc.trans hc').trans (countAfter_of_not_due _ _ hdue)
    · have hnat : ∀ b : Bool, b.toNat = if b = true then 1 else 0 := by decide
      rw [hi, hi', inputAfter_of_not_due _ hen hdue]
      unfold sampled rearmSample
      rw [hnat] <;> cases s.inputs[n].frontEnd <;> rfl
  · have ht : t = { tickCloseIn closein v with prescaler := phase } := rfl
    have hrec : LineSampled v → t.recognizer = recognized s.recognizer closein :=
      fun his => tickCloseIn_recognizer his closein
    have hset : Falls v closein →
        LatchSampled { v with recognizer := t.recognizer, latch := true } :=
      fun ⟨his, _⟩ => latchSampled_of_falls his _
    have hu : ({ s with
        inputs := t.inputs, ports := t.ports, prescaler := t.prescaler, recognizer := t.recognizer
        store := { s.store with pulseCounts := t.store.pulseCounts } } : State)
        = { v with recognizer := t.recognizer, prescaler := phase } := by rw [hti, htp, htc]
    refine ⟨fun hno => ?_, fun his hl => ?_, fun his hl hlt => ?_, fun his hl hge => ?_,
      fun hfalls hfree hin => ?_, fun hfalls hfree hin hm => ?_, fun hfalls hwait => ?_,
      fun hrises => ?_, fun hnf hnr => ?_⟩
    · show (tickCloseIn closein v).recognizer = _
      rw [tickCloseIn_of_not_sampled (s := v) hno]
    · rw [hrec his]
      exact if_pos hl
    · rw [hrec his]
      exact (if_neg hl).trans (if_neg (Nat.not_le.mpr hlt))
    · rw [hrec his]
      exact (if_neg hl).trans (if_pos hge)
    · refine Eq.trans ?_ (congrArg (fun w : State => takeClose .line none { w with latch := true }) hu.symm)
      refine (tick_of_falls ht hfalls).trans ?_
      rw [examineLatch_takes (hset hfalls) hfree hin]
      rfl
    · refine Eq.trans ?_ (congrArg (fun w : State => { w with latch := false }) hu.symm)
      refine (tick_of_falls ht hfalls).trans ?_
      rw [examineLatch_clears (hset hfalls) hfree hin hm]
    · refine Eq.trans ?_ (congrArg (fun w : State => { w with latch := true }) hu.symm)
      refine (tick_of_falls ht hfalls).trans ?_
      rw [examineLatch_stays (hset hfalls) hwait]
    · refine Eq.trans ?_ (congrArg (fun w : State => { w with
        latch := if s.store.closeOptions.lineMode = LineMode.level then false else s.latch }) hu.symm)
      exact tick_of_rises (v := v) ht hrises
    · exact (tick_of_no_edge (v := v) ht hnf hnr).trans hu.symm
  · rw [htp, hports]
    refine congrArg (told s · p) (List.filterMap_congr fun n _ => ?_)
    obtain ⟨_, hc⟩ := hinputs n
    rw [htc, hc]
    exact tickedNotice_eq pls s n

end Sys2Proof.Machine
end

section
/-! The increment path up to the queue: POST INCREMENT, the arbiter, the grant of a port, and the conversion
(R23 to R31, R56 to R60). -/

namespace Sys2Proof.Machine

/-! ### POST INCREMENT -/

/-- The arguments of a POST INCREMENT (R163). -/
def postArgs (q : Quantity) (a : Nat) (tag : Byte) : List Byte := byte q.val :: packedDecimal 4 a ++ [tag]

theorem length_postArgs (q : Quantity) (a : Nat) (tag : Byte) : (postArgs q a tag).length = 6 := by
  simp [postArgs, length_packedDecimal]

theorem postQuantity_postArgs (s : State) (q : Quantity) (a : Nat) (tag : Byte) :
    postQuantity s (postArgs q a tag) = if s.store.quantities[q].defined then some q else none := by
  have h : finOfByte 8 (arg (postArgs q a tag) 0) = some q := quantityOfByte_byte q
  unfold postQuantity
  rw [h]
  rfl

theorem postAmount_postArgs (q : Quantity) {a : Nat} (tag : Byte) (ha : a ≤ 99999999) :
    postAmount (postArgs q a tag) = if 1 ≤ a then some a else none := by
  have hbytes : argBytes (postArgs q a tag) 1 4 = packedDecimal 4 a := by
    exact List.take_left' (length_packedDecimal 4 a)
  unfold postAmount
  rw [hbytes, packedInRange, parsePacked_packedDecimal, Nat.mod_eq_of_lt (by omega)]
  by_cases h1 : 1 ≤ a
  · rw [if_pos h1]
    exact inRange_eq_some h1 ha
  · rw [if_neg h1]
    exact inRange_eq_none (by omega)

theorem resultTag_postArgs (q : Quantity) (a : Nat) (tag : Byte) :
    resultTag ⟨.postIncrement, postArgs q a tag⟩ = tag := by
  have htag : arg (postArgs q a tag) 5 = tag := by
    show (packedDecimal 4 a ++ [tag]).getD 4 0 = tag
    rw [List.getD_append_right _ _ _ _ (by rw [length_packedDecimal]), length_packedDecimal]
    rfl
  unfold resultTag
  rw [if_pos rfl, if_pos (length_postArgs q a tag), htag]

/-- The result of a POST INCREMENT on its port (R31, R150). -/
theorem giveResult_post (p : PortId) (q : Quantity) (a : Nat) (tag : Byte) (opened : Bool) (st : Status)
    (data : List Byte) (s : State) :
    giveResult p ⟨⟨.postIncrement, postArgs q a tag⟩, opened⟩ st data s = onPort p (fun x =>
      { x with
        execution := none
        lastResult := some ⟨0x10, tag, st, s.store.applicationCounter⟩
        wire := if opened then .response ⟨some .postIncrement, st, data⟩ else x.wire }) s := by
  have hnone : ∀ b : Bool, (b || (!opened && carriesNotices .postIncrement st data)) = b := fun b => by
    rw [show carriesNotices .postIncrement st data = false from rfl, Bool.and_false, Bool.or_false]
  unfold giveResult
  refine onPort_congr ?_
  dsimp only
  rw [hnone, resultTag_postArgs]
  rfl

/-- The checks of a POST INCREMENT in their order (R30). -/
theorem doPostIncrement_postArgs (p : PortId) (q : Quantity) {a : Nat} (tag : Byte) (s : State)
    (ha : a ≤ 99999999) : doPostIncrement p (postArgs q a tag) s
      = if s.store.quantities[q].defined = true ∧ 1 ≤ a then
          if s.store.rights[p].postMask.getLsbD q.val then keepWaiting s else refuse s .noRight
        else refuse s .badArgument := by
  unfold doPostIncrement
  rw [postQuantity_postArgs, postAmount_postArgs q tag ha]
  by_cases hd : s.store.quantities[q].defined = true
  · by_cases h1 : 1 ≤ a
    · rw [if_pos hd, if_pos h1, if_pos ⟨hd, h1⟩]
    · rw [if_pos hd, if_neg h1, if_neg fun h : _ ∧ _ => h1 h.2]
  · rw [if_neg hd, if_neg fun h : _ ∧ _ => hd h.1]

theorem runCommand_post {p : PortId} {q : Quantity} {a : Nat} {tag : Byte} {s : State}
    (h : Takes p s) (hm : s.store.mode = .run) :
    runCommand p ⟨.postIncrement, postArgs q a tag⟩ (openFrame p s)
      = doPostIncrement p (postArgs q a tag) (openFrame p s) := by
  have ⟨_, _, hs⟩ := h
  have hc : commonRefusal p ⟨.postIncrement, postArgs q a tag⟩ s = none :=
    (commonRefusal_eq_right rfl (by rw [length_postArgs]; rfl) hs
      (by simp [modeFits, modeAllowed, hm])).trans rfl
  exact runOne_of_dispatched (ex := ⟨⟨.postIncrement, postArgs q a tag⟩, true⟩)
    ((commonRefusal_openFrame ..).trans hc) (.inl rfl)

theorem exec_post {p : PortId} {q : Quantity} {a : Nat} {tag : Byte} {s : State} (h : Takes p s) :
    exec (.postIncrement p (postArgs q a tag)) s
      = .next (runOne p ⟨⟨.postIncrement, postArgs q a tag⟩, true⟩ (openFrame p s)) := by
  rw [exec_of_requestOf rfl (.inl rfl), takeCommand_of_takes h]
  rw [length_postArgs]
  decide

theorem exec_post_refused {p : PortId} {q : Quantity} {a : Nat} {tag : Byte} {s : State} {st : Status}
    (h : Takes p s) (hm : s.store.mode = .run)
    (hd : doPostIncrement p (postArgs q a tag) (openFrame p s) = refuse (openFrame p s) st) :
    exec (.postIncrement p (postArgs q a tag)) s = .next (onPort p (fun x => { framed x with
      lastResult := some ⟨0x10, tag, st, s.store.applicationCounter⟩
      wire := .response ⟨some .postIncrement, st, []⟩ }) s) := by
  have ⟨_, hnone, _⟩ := h
  have hrun : runOne p ⟨⟨.postIncrement, postArgs q a tag⟩, true⟩ (openFrame p s)
      = giveResult p ⟨⟨.postIncrement, postArgs q a tag⟩, true⟩ st [] (openFrame p s) := by
    unfold runOne
    rw [runCommand_post h hm, hd]
    rfl
  rw [exec_post h, hrun, giveResult_post, openFrame_eq_onPort, onPort_onPort]
  refine congrArg _ (onPort_congr ?_)
  unfold framed
  rw [hnone]
  rfl

theorem exec_post_waits {p : PortId} {q : Quantity} {a : Nat} {tag : Byte} {s : State}
    (h : Takes p s) (hm : s.store.mode = .run)
    (hd : doPostIncrement p (postArgs q a tag) (openFrame p s) = keepWaiting (openFrame p s)) :
    exec (.postIncrement p (postArgs q a tag)) s = .next (onPort p (fun x => { framed x with
      execution := some ⟨⟨.postIncrement, postArgs q a tag⟩, true⟩, wire := .waitBytes }) s) := by
  have hrun : runOne p ⟨⟨.postIncrement, postArgs q a tag⟩, true⟩ (openFrame p s)
      = onPort p (fun x => { x with
          execution := some ⟨⟨.postIncrement, postArgs q a tag⟩, true⟩, wire := .waitBytes })
        (openFrame p s) := by
    unfold runOne
    rw [runCommand_post h hm, hd]
    rfl
  rw [exec_post h, hrun, openFrame_eq_onPort, onPort_onPort]

/-- Settles O17, by the checks of POST INCREMENT in their order. -/
theorem postIncrementWaitsAtTheArbiter : Obligations.PostIncrementWaitsAtTheArbiter := by
  intro p q a tag s h hm ha args row refused
  have hdo := doPostIncrement_postArgs p q tag (openFrame p s) ha
  refine ⟨fun hd h1 hr => exec_post_waits h hm (hdo.trans ?_),
    fun hbad => exec_post_refused h hm (hdo.trans ?_),
    fun hd h1 hr => exec_post_refused h hm (hdo.trans ?_)⟩
  · exact (if_pos ⟨hd, h1⟩).trans (if_pos hr)
  · refine if_neg fun ⟨hd, h1⟩ => ?_
    rcases hbad with hbad | hbad
    · exact nomatch hbad.symm.trans hd
    · omega
  · refine (if_pos ⟨hd, h1⟩).trans (if_neg fun h => ?_)
    exact nomatch hr.symm.trans h

/-! ### The arbiter -/

theorem mem_requestersAfter (x r : Requester) : r ∈ requestersAfter x := by
  cases x with
  | converter =>
    cases r with
    | converter => decide
    | port p => revert p; decide
  | port q =>
    cases r with
    | converter => revert q; decide
    | port p => revert q p; decide

theorem postWaits_iff (s : State) (p : PortId) : requesterWaits s (.port p) = true ↔
    ∃ ex, s.ports[p].execution = some ex ∧ ex.command.kind = .postIncrement := by
  show postWaits s p = true ↔ _
  unfold postWaits
  cases s.ports[p].execution with
  | none => simp
  | some ex => simp

theorem converterWaits_iff (s : State) : requesterWaits s .converter = true ↔ s.supply = .runSupply
    ∧ (s.store.mode = .run ∨ (s.store.mode = .enteringSetup ∧ s.closeState = .idle))
    ∧ (∃ n : InputId, eligible s n = true) ∧ s.queue.length < 32 := by
  show (converterRuns s && anyEligible s && decide (s.queue.length < queueLimit)) = true ↔ _
  unfold converterRuns anyEligible queueLimit
  simp only [Bool.and_eq_true, Bool.or_eq_true, beq_iff_eq, decide_eq_true_eq, List.any_eq_true,
    List.mem_finRange, true_and]
  tauto

/-- Settles O20, from the first requester that waits. -/
theorem arbiterGrantsInCyclicOrder : Obligations.ArbiterGrantsInCyclicOrder := by
  intro s order
  have horder : order = requestersAfter s.arbiterPointer := by
    unfold order
    cases s.arbiterPointer with
    | converter => rfl
    | port p => fin_cases p <;> rfl
  refine ⟨postWaits_iff s, ?_, ?_, fun r hr => ?_⟩
  · simpa only [eligible_iff] using converterWaits_iff s
  · show List.find? _ _ = none ↔ _
    rw [List.find?_eq_none]
    exact ⟨fun h r => Bool.eq_false_iff.mpr (h r (mem_requestersAfter _ r)),
      fun h r _ => Bool.eq_false_iff.mp (h r)⟩
  · obtain ⟨hwaits, before, after, hsplit, hbefore⟩ := List.find?_eq_some_iff_append.mp hr
    refine ⟨hwaits, before, after, horder.trans hsplit, fun x hx => ?_⟩
    simpa using hbefore x hx

/-! ### The grant of a port -/

/-- Settles O18, by the fill of the queue. -/
theorem portGrantPlacesOrRefuses : Obligations.PortGrantPlacesOrRefuses := by
  intro p q a tag opened s h1 ha hgrant hex done
  let ex : Execution := ⟨⟨.postIncrement, postArgs q a tag⟩, opened⟩
  have hq : finOfByte 8 (arg (postArgs q a tag) 0) = some q := quantityOfByte_byte q
  have hamount : postAmount (postArgs q a tag) = some a :=
    (postAmount_postArgs q tag ha).trans (if_pos h1)
  have hdone : ∀ (st : Status) (data : List Byte) (queue : List Increment),
      giveResult p ex st data { s with queue := queue, arbiterPointer := .port p }
        = done st data queue := fun st data queue => giveResult_post ..
  let given : State :=
    if s.store.mode ≠ .run then done .wrongMode [] s.queue
    else if portFillLimit < s.queue.length then done .queueFull [byte s.queue.length] s.queue
    else done .ok [byte (s.queue.length + 1)]
      (s.queue ++ [⟨q, a, s.store.activeTariff, .port p⟩])
  have hexec : exec .portGrant s = .next (takeWaiting given p) := by
    show execPortGrant s = _
    unfold execPortGrant
    rw [hgrant]
    dsimp only
    rw [show s.ports[p].execution = some ex from hex]
    show Host.Outcome.next (grantPort p ex s) = _
    unfold grantPort
    rw [show finOfByte 8 (arg ex.command.args 0) = some q from hq,
      show postAmount ex.command.args = some a from hamount]
    dsimp only [given]
    rw [← hdone, ← hdone, ← hdone]
    rfl
  refine ⟨fun hm => ?_, fun hm hfull => ?_, fun hm hroom => ?_⟩
  · rw [hexec, show given = _ from if_pos hm]
  · rw [hexec, show given = _ from (if_neg (not_not.mpr hm)).trans (if_pos (Nat.lt_of_lt_of_le (by decide) hfull))]
  · rw [hexec, show given = _ from (if_neg (not_not.mpr hm)).trans (if_neg (Nat.not_lt.mpr hroom))]

/-! ### The conversion -/

/-- How many inputs stand before an input in the cyclic order after a pointer (R58). -/
def turnAfter (x m : InputId) : Nat := (m.val + 7 - x.val) % 8

theorem turnAfter_lt (x m : InputId) : turnAfter x m < 8 := Nat.mod_lt _ (by decide)

theorem turnAfter_add (x k : InputId) : turnAfter x (x + 1 + k) = k.val := by
  revert x k; decide

theorem add_turnAfter (x m : InputId) : x + 1 + ⟨turnAfter x m, turnAfter_lt x m⟩ = m := by
  revert x m; decide

/-- The converter serves the eligible input whose turn comes first. -/
theorem find_inputsAfter {s : State} {n : InputId} (hn : eligible s n = true)
    (hfirst : ∀ m : InputId, eligible s m = true →
      turnAfter s.converterPointer n ≤ turnAfter s.converterPointer m) :
    (inputsAfter s.converterPointer).find? (eligible s) = some n := by
  refine List.find?_eq_some_iff_getElem.mpr ⟨hn, turnAfter s.converterPointer n, ?_, ?_, fun j hj => ?_⟩
  · simpa [inputsAfter] using turnAfter_lt _ n
  · simpa [inputsAfter] using add_turnAfter s.converterPointer n
  · have hj8 : j < 8 := hj.trans (turnAfter_lt _ n)
    have hget : ∀ h, (inputsAfter s.converterPointer)[j]'h = s.converterPointer + 1 + ⟨j, hj8⟩ := by
      simp [inputsAfter]
    rw [hget]
    by_contra he
    have hle := hfirst (s.converterPointer + 1 + ⟨j, hj8⟩) (by simpa using he)
    rw [turnAfter_add] at hle
    exact absurd hj (Nat.not_lt.mpr hle)

theorem exec_conversion {s : State} {n : InputId} (hgrant : nextGrant s = some .converter)
    (hn : (inputsAfter s.converterPointer).find? (eligible s) = some n) :
    exec .conversion s = .next (convert n s) := by
  show execConversion s = _
  unfold execConversion
  rw [hgrant]
  dsimp only
  rw [hn]

/-- Settles O19, by the input that the converter serves. -/
theorem conversionTakesPulses : Obligations.ConversionTakesPulses := by
  intro n s hgrant isEligible turn hn hfirst d c taken product amount
  have hfind := find_inputsAfter ((eligible_iff s n).mpr hn)
    fun m hm => hfirst m ((eligible_iff s m).mp hm)
  rw [exec_conversion hgrant hfind]
  unfold convert
  by_cases h1 : 1 ≤ amount
  · have h1' : 1 ≤ conversionProduct s.store.pulseDefs[n] s.store.pulseCounts[n]
      / 10 ^ s.store.pulseDefs[n].fraction := h1
    rw [if_pos h1]
    dsimp only
    rw [if_pos h1']
    rfl
  · have h1' : ¬ 1 ≤ conversionProduct s.store.pulseDefs[n] s.store.pulseCounts[n]
      / 10 ^ s.store.pulseDefs[n].fraction := h1
    rw [if_neg h1, List.append_nil]
    dsimp only
    rw [if_neg h1']
    rfl

end Sys2Proof.Machine
end

section
/-! The time base: chains that expire (R79, R93, R99, R136 to R139), and the interval's full end (R79, R80). -/

namespace Sys2Proof.Machine

/-! ### A chain's expiry -/

theorem countedDown_one (n : Nat) : countedDown n 1 = 0 := rfl

/-- A chain that stands at 1 reloads or expires at its tick (R138). -/
def expiredChain (f : ChainFn) (c : Chain) : Chain :=
  match f with
  | .demand => { c with count := c.reload }
  | .overdue | .inhibit => { c with count := 0, state := .expired }

theorem chainCounted_of_one {c : Chain} (f : ChainFn) (h : c.count = 1) :
    chainCounted f c = expiredChain f c := by
  unfold chainCounted
  rw [h, if_pos (countedDown_one _)]
  cases f <;> rfl

theorem onChain_congr {f : ChainFn} {g g' : Chain → Chain} {s : State}
    (h : g (chainOf s.store.chains f) = g' (chainOf s.store.chains f)) :
    onChain f g s = onChain f g' s := by
  show ({ s with store := { s.store with chains := withChain s.store.chains f (g _) } } : State) = _
  rw [h]
  rfl

/-- The tick at which a chain expires (R138, R139). -/
theorem chainTick_of_one {f : ChainFn} {s : State} (h : (chainOf s.store.chains f).count = 1) :
    chainTick f s = expiryDelivered f (onChain f (expiredChain f) s) := by
  unfold chainTick
  dsimp only
  rw [h, if_pos (countedDown_one _), onChain_congr (chainCounted_of_one f h)]

theorem chainEvent_of_due {f : ChainFn} {s : State}
    (hf : chainTickFalls (chainOf s.store.chains f).tick s = true)
    (he : TickPart.chain (chainOf s.store.chains f).tick f ∉ s.prescaler.early)
    (hr : (chainOf s.store.chains f).state = .running) (h1 : (chainOf s.store.chains f).count = 1) :
    chainEvent f s = takeEarly (.chain (chainOf s.store.chains f).tick f)
      (expiryDelivered f (onChain f (expiredChain f) s)) := by
  have hdue : chainDue (chainOf s.store.chains f) = true := by
    unfold chainDue
    rw [hr, h1]
    rfl
  unfold chainEvent
  dsimp only
  rw [if_pos ⟨hf, (takenEarly_false_iff _ s).mpr he, hdue⟩, chainTick_of_one h1]

/-! ### OVERDUE and INHIBIT at the period unit -/

theorem overdueExpired_discarded {s : State}
    (h : s.store.closeOptions.overdueEnabled = false ∨ s.closeState ≠ .idle) :
    overdueExpired s = s := if_pos h

theorem not_discarded {s : State} (he : s.store.closeOptions.overdueEnabled = true)
    (hi : s.closeState = .idle) :
    ¬(s.store.closeOptions.overdueEnabled = false ∨ s.closeState ≠ .idle) := by
  rw [he, hi]
  exact fun h => h.elim (nomatch ·) fun h => h rfl

theorem overdueExpired_held {s : State} (he : s.store.closeOptions.overdueEnabled = true)
    (hi : s.closeState = .idle) (hw : s.supply ≠ .runSupply ∨ s.store.mode = .enteringSetup
      ∨ (s.store.mode = .run ∧ inhibitActive s = true)) :
    overdueExpired s = onStore (fun st => { st with overdueHeld := true }) s := by
  unfold overdueExpired
  rw [if_neg (not_discarded he hi), if_pos hw]

theorem overdueExpired_taken {s : State} (he : s.store.closeOptions.overdueEnabled = true)
    (hi : s.closeState = .idle) (hs : s.supply = .runSupply) (hm : s.store.mode = .run)
    (hin : inhibitActive s = false) : overdueExpired s = takeClose .overdue none s := by
  have hw : ¬(s.supply ≠ .runSupply ∨ s.store.mode = .enteringSetup
      ∨ (s.store.mode = .run ∧ inhibitActive s = true)) := by
    rw [hs, hm, hin]
    exact fun h => h.elim (fun h => h rfl) fun h => h.elim (nomatch ·) fun h => nomatch h.2
  unfold overdueExpired
  rw [if_neg (not_discarded he hi), if_neg hw, if_pos hm]

/-- The conditions under which the end of the inhibit acts (R93, R139). -/
abbrev ActsAtEnd (s : State) : Prop := s.supply = .runSupply ∧ s.closeState = .idle ∧ s.store.mode = .run

/-- A held OVERDUE request, and a pending LEVEL request (R93). -/
abbrev OverdueWaits (s : State) : Prop :=
  s.store.overdueHeld = true ∧ s.store.closeOptions.overdueEnabled = true

abbrev LineWaits (s : State) : Prop :=
  s.store.closeOptions.lineMode = .level ∧ s.latch = true ∧ s.recognizer.level = .low

theorem inhibitEnded_overdue {s : State} (h : ActsAtEnd s) (ho : OverdueWaits s) :
    inhibitEnded s = takeClose .overdue none s := (if_pos h).trans (if_pos ho)

theorem inhibitEnded_line {s : State} (h : ActsAtEnd s) (ho : ¬ OverdueWaits s) (hl : LineWaits s) :
    inhibitEnded s = takeClose .line none s :=
  (if_pos h).trans ((if_neg ho).trans (if_pos hl))

theorem inhibitEnded_nothing {s : State} (h : ¬ ActsAtEnd s ∨ (¬ OverdueWaits s ∧ ¬ LineWaits s)) :
    inhibitEnded s = s := by
  by_cases ha : ActsAtEnd s
  · obtain ⟨ho, hl⟩ := h.resolve_left (not_not.mpr ha)
    exact (if_pos ha).trans ((if_neg ho).trans (if_neg hl))
  · exact if_neg ha

/-- Settles O35, by the expiry of each chain and what its owner does with it. -/
theorem expiriesAtThePeriodUnit : Obligations.ExpiriesAtThePeriodUnit := by
  refine ⟨fun s hm hr h1 hf he => ?_, fun s hr h1 hf he => ?_⟩
  · intro expired waiting enabled
    let u : State := onChain .overdue (expiredChain .overdue) s
    have hexec : exec .overdueExpiry s
        = .next (takeEarly (.chain s.store.chains.overdue.tick .overdue) (overdueExpired u)) :=
      congrArg _ (chainEvent_of_due (f := .overdue) hf he hr h1)
    refine ⟨fun hd => ?_, fun hen hi hw => ?_, fun hen hi hs hrun hin => ?_⟩
    · rw [hexec, overdueExpired_discarded (s := u) hd]
      rfl
    · have hw' : u.supply ≠ .runSupply ∨ u.store.mode = .enteringSetup
          ∨ (u.store.mode = .run ∧ inhibitActive u = true) := by
        rcases mode_ne_setup_iff.mp hm with hm | hm
        · exact hw.imp_right (Or.imp_right fun hin => ⟨hm, hin⟩)
        · exact .inr (.inl hm)
      rw [hexec, overdueExpired_held (s := u) hen hi hw']
      rfl
    · rw [hexec, overdueExpired_taken (s := u) hen hi hs hrun hin]
      rfl
  · intro expired acts overdue line
    let u : State := onChain .inhibit (expiredChain .inhibit) s
    have hexec : exec .inhibitExpiry s
        = .next (takeEarly (.chain s.store.chains.inhibit.tick .inhibit) (inhibitEnded u)) :=
      congrArg _ (chainEvent_of_due (f := .inhibit) hf he hr h1)
    refine ⟨Bool.and_false _, fun ha ho => ?_, fun ha ho hl => ?_, fun hno => ?_⟩
    · rw [hexec, inhibitEnded_overdue (s := u) ha ho]
      rfl
    · rw [hexec, inhibitEnded_line (s := u) ha ho hl]
      rfl
    · rw [hexec, inhibitEnded_nothing (s := u) hno]
      rfl

/-! ### The full end of a demand interval -/

/-- Whether a channel's accumulator is above its maximum of a tariff (R79). -/
def rises (t : Tariff) (s : State) (c : ChannelId) : Bool :=
  s.store.channels[c].quantity != none
    && decide (s.store.channels[c].maxima[tariffIndex t].maximum < s.accumulators[c])

/-- A channel and its accumulator after a full end (R79). -/
def judgedChannel (t : Tariff) (s : State) (c : ChannelId) : Channel :=
  if rises t s c then
    { s.store.channels[c] with
      maxima := s.store.channels[c].maxima.set (tariffIndex t)
        ⟨s.accumulators[c], s.store.intervalIndex⟩ }
  else s.store.channels[c]

def judgedAccumulator (s : State) (c : ChannelId) : Nat :=
  if s.store.channels[c].quantity = none then s.accumulators[c] else 0

/-- The PEAK notice of a channel (R80). -/
def judgedPeak (t : Tariff) (s : State) (c : ChannelId) : Option Notice :=
  if rises t s c then some (peakNotice c t s.accumulators[c]) else none

/-- The state with one channel judged, its notice apart. -/
def channelJudged (t : Tariff) (s : State) (c : ChannelId) : State :=
  { s with
    store := { s.store with channels := s.store.channels.set c (judgedChannel t s c) }
    accumulators := s.accumulators.set c (judgedAccumulator s c) }

theorem raised_channels (ns : List Notice) (s : State) (st : Store) (acc : Vector Nat 4) :
    raised ns { s with store := st, accumulators := acc }
      = { raised ns s with store := st, accumulators := acc } := by
  refine eq_of_ports ?_ fun p => ?_
  · rw [raised_frame, raised_frame ns s]
  · rw [raised_port]
    exact (raised_port ns s p).symm

theorem set_self {α : Type} {n : Nat} (v : Vector α n) (i : Fin n) : v.set i v[i] = v :=
  Vector.set_getElem_self _

theorem judgeChannel_eq (t : Tariff) (s : State) (c : ChannelId) :
    judgeChannel t s c = raised (judgedPeak t s c).toList (channelJudged t s c) := by
  unfold judgeChannel channelJudged judgedAccumulator
  by_cases hq : s.store.channels[c].quantity = none
  · have hno : rises t s c = false := by unfold rises; rw [hq]; rfl
    rw [if_pos hq, if_pos hq]
    unfold judgedPeak judgedChannel
    rw [hno, if_neg (by decide), if_neg (by decide), set_self, set_self]
    rfl
  · have hrises : rises t s c = true
        ↔ s.store.channels[c].maxima[tariffIndex t].maximum < s.accumulators[c] := by
      unfold rises
      rw [Bool.and_eq_true, bne_iff_ne, decide_eq_true_eq]
      exact and_iff_right hq
    rw [if_neg hq, if_neg hq]
    dsimp only
    unfold judgedPeak judgedChannel
    by_cases hlt : s.store.channels[c].maxima[tariffIndex t].maximum < s.accumulators[c]
    · rw [if_pos hlt, if_pos (hrises.mpr hlt), if_pos (hrises.mpr hlt)]
      refine Eq.trans ?_ (raised_channels [peakNotice c t s.accumulators[c]]
        (onStore (fun st => { st with channels := st.channels.set c { s.store.channels[c] with
          maxima := s.store.channels[c].maxima.set (tariffIndex t)
            ⟨s.accumulators[c], s.store.intervalIndex⟩ } }) s) _ _).symm
      rw [raised_singleton, raise_frame]
      rfl
    · rw [if_neg hlt, if_neg (mt hrises.mp hlt), if_neg (mt hrises.mp hlt), set_self]
      rfl

/-- A channel that has been judged does not touch another. -/
theorem judged_channelJudged_ne (t : Tariff) (s : State) {c d : ChannelId} (h : c ≠ d) :
    (channelJudged t s c).store.channels[d] = s.store.channels[d]
    ∧ (channelJudged t s c).accumulators[d] = s.accumulators[d] :=
  ⟨get_set_ne _ h _, get_set_ne _ h _⟩

/-- Channels, each once, judged in order: each as it stood, and their notices raised in order. -/
theorem foldl_judgeChannel (t : Tariff) {cs : List ChannelId} (hnd : cs.Nodup) (s : State) :
    ∃ (chs : Vector Channel 4) (acc : Vector Nat 4),
      cs.foldl (judgeChannel t) s = raised (cs.filterMap (judgedPeak t s))
        { s with store := { s.store with channels := chs }, accumulators := acc }
      ∧ ∀ d : ChannelId, chs[d] = (if d ∈ cs then judgedChannel t s d else s.store.channels[d])
        ∧ acc[d] = if d ∈ cs then judgedAccumulator s d else s.accumulators[d] := by
  induction cs generalizing s with
  | nil =>
    refine ⟨s.store.channels, s.accumulators, rfl, fun d => ?_⟩
    rw [if_neg (by simp), if_neg (by simp)]
    exact ⟨rfl, rfl⟩
  | cons c cs ih =>
    obtain ⟨hc, hcs⟩ := List.nodup_cons.mp hnd
    obtain ⟨chs, acc, hfold, hget⟩ := ih hcs (judgeChannel t s c)
    rw [judgeChannel_eq, raised_frame] at hfold hget
    have hother : ∀ d, c ≠ d → judgedPeak t (channelJudged t s c) d = judgedPeak t s d
        ∧ judgedChannel t (channelJudged t s c) d = judgedChannel t s d
        ∧ judgedAccumulator (channelJudged t s c) d = judgedAccumulator s d := fun d hd => by
      obtain ⟨hch, hacc⟩ := judged_channelJudged_ne t s hd
      unfold judgedPeak judgedChannel judgedAccumulator rises
      rw [hch, hacc]
      exact ⟨rfl, rfl, rfl⟩
    refine ⟨chs, acc, ?_, fun d => ?_⟩
    · have hnotices : cs.filterMap (judgedPeak t { channelJudged t s c with
            ports := (raised (judgedPeak t s c).toList (channelJudged t s c)).ports })
          = cs.filterMap (judgedPeak t s) := by
        refine List.filterMap_congr fun d hd => ?_
        obtain ⟨hpeak, _⟩ := hother d fun h => hc (h ▸ hd)
        exact hpeak
      have h1 := raised_channels (judgedPeak t s c).toList s { s.store with channels := chs } acc
      have h2 : raised (judgedPeak t s c).toList (channelJudged t s c) = _ :=
        raised_channels (judgedPeak t s c).toList s (channelJudged t s c).store
          (channelJudged t s c).accumulators
      rw [List.foldl_cons, judgeChannel_eq, raised_frame, hfold, filterMap_cons_eq, raised_append,
        hnotices]
      refine congrArg _ ?_
      rw [h1, h2, raised_frame]
      rfl
    · obtain ⟨hch, hacc⟩ := hget d
      by_cases hcd : c = d
      · subst hcd
        rw [if_neg hc] at hch hacc
        rw [if_pos (by simp), if_pos (by simp)]
        exact ⟨hch.trans (get_set_self _ c _), hacc.trans (get_set_self _ c _)⟩
      · obtain ⟨_, hjch, hjacc⟩ := hother d hcd
        obtain ⟨hch', hacc'⟩ := judged_channelJudged_ne t s hcd
        have hmem : d ∈ c :: cs ↔ d ∈ cs := by simp [Ne.symm hcd]
        simp only [hmem]
        exact ⟨hch.trans (if_congr Iff.rfl hjch hch'), hacc.trans (if_congr Iff.rfl hjacc hacc')⟩

/-- A filtered list mapped, in one pass. -/
theorem map_filter_eq_filterMap {α β : Type} (q : α → Bool) (f : α → β) (l : List α) :
    (l.filter q).map f = l.filterMap fun a => if q a then some (f a) else none := by
  rw [← List.filterMap_eq_map, List.filterMap_filter]
  rfl

/-- The full end of an interval (R79). -/
theorem fullEnd_eq (s : State) : ∃ (chs : Vector Channel 4) (acc : Vector Nat 4),
    fullEnd s = { s with
      ports := (raised (([0, 1, 2, 3] : List ChannelId).filterMap
        (judgedPeak s.store.activeTariff s)) s).ports
      store := { s.store with channels := chs, intervalIndex := min (s.store.intervalIndex + 1) 65535 }
      accumulators := acc, intervalPartial := false }
    ∧ ∀ c : ChannelId, chs[c] = judgedChannel s.store.activeTariff s c
      ∧ acc[c] = judgedAccumulator s c := by
  obtain ⟨chs, acc, hfold, hget⟩ := foldl_judgeChannel s.store.activeTariff
    (cs := [0, 1, 2, 3]) (by decide) s
  refine ⟨chs, acc, ?_, fun c => ?_⟩
  · unfold fullEnd
    rw [hfold, raised_channels, raised_frame]
    rfl
  · have hmem : c ∈ ([0, 1, 2, 3] : List ChannelId) := by revert c; decide
    simpa only [hmem, if_true] using hget c

/-- Settles O30, the four channels judged in order, each as it stood. -/
theorem demandExpiryEndsTheIntervalInFull : Obligations.DemandExpiryEndsTheIntervalInFull := by
  intro s hr h1 hf he k phase reloaded rises'
  let u : State := onChain .demand (expiredChain .demand) s
  have hexec : exec .demandExpiry s
      = .next (takeEarly (.chain s.store.chains.demand.tick .demand)
        (if u.supply = .runSupply then fullEnd u else u)) :=
    congrArg _ (chainEvent_of_due (f := .demand) hf he hr h1)
  refine ⟨fun hs => ?_, fun hs => ?_⟩
  · obtain ⟨chs, acc, hend, hget⟩ := fullEnd_eq u
    rw [hexec, if_pos (show u.supply = _ from hs), hend]
    refine ⟨_, rfl, rfl, rfl, fun c => ?_, rfl, rfl, fun p => ?_, rfl⟩
    · obtain ⟨hch, hacc⟩ := hget c
      exact ⟨hch, hacc⟩
    · refine (raised_port _ u p).trans ?_
      refine congrArg (told s · p) ?_
      exact (map_filter_eq_filterMap (rises s.store.activeTariff s) _ _).symm
  · rw [hexec, if_neg (show ¬ u.supply = _ from hs)]
    rfl

end Sys2Proof.Machine
end

section
/-! RETAIN entry, power-up and the loss of both supplies, and the RESET input (R133, R134, R159, R185 to R192). -/

namespace Sys2Proof.Machine

/-! ### Retain -/

theorem drainComplete_iff (s : State) : drainComplete s = true ↔
    s.supply = .drain ∧ s.queue = [] ∧ s.closeState = .idle ∧ s.store.mode ≠ .enteringSetup
      ∧ ∀ e ts, s.engine ≠ .applying e ts := by
  unfold drainComplete
  simp only [Bool.and_eq_true, beq_iff_eq, bne_iff_ne, List.isEmpty_iff, and_assoc]
  cases s.engine with
  | applying e ts => simp
  | halted | ready | capturing | closing => simp

theorem heldAtReload_state_ne (c : Chain) : (heldAtReload c).state ≠ .running := by
  unfold heldAtReload
  split
  next h => rw [h]; decide
  next => exact (nomatch ·)

/-- Settles O48, from the volatile state as it is lost. -/
theorem retainEntryKeepsTheStore : Obligations.RetainEntryKeepsTheStore := by
  intro s hs hq hc hm he
  have hexec : exec .retainEntry s = .next
      { loseVolatile s with retainDuration := 0, supply := retainOrRestore s.pfailAsserted } :=
    congrArg Host.Outcome.next (if_pos ((drainComplete_iff s).mpr ⟨hs, hq, hc, hm, he⟩))
  refine ⟨_, hexec, rfl, rfl, rfl, rfl, rfl, rfl, fun n => ?_⟩
  have hn := congrArg InputRun.frontEnd
    (get_map s.inputs (fun i : InputRun => { i with eligible := false, served := false }) n)
  exact hn

/-! ### Power-up and the loss of both supplies -/

theorem get_restartInputs (s : State) (n : InputId) : (restartInputs s).inputs[n]
    = restarted s.store.pulseDefs[n].enabled s.inputs[n] := Vector.getElem_ofFn ..

/-- A part without power takes no tick (R134). -/
theorem noTickFalls_of_unpowered {t : State} (h : t.supply = .unpowered) :
    sampleFalls t = false ∧ secondFalls t = false ∧ minuteFalls t = false := by
  refine ⟨?_, ?_, ?_⟩ <;> rw [Bool.eq_false_iff]
  · exact fun hf => ((sampleFalls_iff t).mp hf).1 h
  · exact fun hf => ((secondFalls_iff t).mp hf).1 h
  · exact fun hf => ((minuteFalls_iff t).mp hf).1 h

theorem exec_tick_of_unpowered {t : State} (h : t.supply = .unpowered) (hi lo : Bool) (pls : BitVec 8)
    (first : List TickTaker) : exec (.sampleTick pls hi) t = .next t
      ∧ exec (.secondTick hi lo first) t = .next t ∧ exec (.minuteTick first) t = .next t := by
  obtain ⟨hsample, hsecond, hminute⟩ := noTickFalls_of_unpowered h
  exact ⟨congrArg _ (if_neg (by rw [hsample]; exact Bool.false_ne_true)),
    congrArg _ (if_neg (by rw [hsecond]; exact Bool.false_ne_true)),
    congrArg _ (if_neg (by rw [hminute]; exact Bool.false_ne_true))⟩

/-- A power-up on the store that `verifyStore` leaves. -/
def poweredUp (deasserted : Bool) (s : State) : State :=
  { onChain .demand heldAtReload (restartInputs s) with
    pfailAsserted := !deasserted, supply := retainOrRestore (!deasserted) }

theorem exec_powerUp {deasserted : Bool} {s : State} (h : s.supply = .unpowered) :
    exec (.powerUp deasserted) s = .next (poweredUp deasserted
      (verifyStore { s with prescaler := ⟨0, 0, []⟩, retainDuration := 0 })) :=
  congrArg Host.Outcome.next (if_pos h)

theorem retainOrRestore_not (deasserted : Bool) :
    retainOrRestore (!deasserted) = if deasserted then .restore else .retain := by
  cases deasserted <;> rfl

theorem factoryStore_pulseDefs (n : InputId) : factoryStore.pulseDefs[n] = factoryPulseDef :=
  get_replicate 8 _ n

/-- Settles O50, by whether the signature verifies. -/
theorem powerUpAndLossOfSupplies : Obligations.PowerUpAndLossOfSupplies := by
  refine ⟨fun deasserted s hs => ⟨_, exec_powerUp hs, ?_⟩, fun s hs => ?_⟩
  · let u : State := { s with prescaler := ⟨0, 0, []⟩, retainDuration := 0 }
    rcases hok : signatureOk s.store with _ | _
    · have hv : verifyStore u = coldStart u := if_neg (ne_true_of_eq_false hok)
      rw [hv]
      refine ⟨retainOrRestore_not _, rfl, rfl, rfl, (nomatch ·), fun _ => ⟨rfl, fun n => ?_⟩⟩
      refine (congrArg InputRun.frontEnd (get_restartInputs (coldStart u) n)).trans ?_
      show (restarted factoryStore.pulseDefs[n].enabled _).frontEnd = _
      rw [factoryStore_pulseDefs]
      rfl
    · have hv : verifyStore u = u := if_pos hok
      rw [hv]
      refine ⟨retainOrRestore_not _, rfl, rfl, rfl, fun _ => ⟨rfl, fun n => ?_⟩, (nomatch ·)⟩
      exact congrArg InputRun.frontEnd (get_restartInputs u n)
  · refine ⟨_, congrArg Host.Outcome.next (if_neg hs), rfl, rfl, rfl, rfl, ?_, fun hi lo pls first => ?_⟩
    · exact heldAtReload_state_ne _
    · exact exec_tick_of_unpowered rfl hi lo pls first

/-! ### The RESET input -/

theorem portCleared_portCleared (q : Port) : portCleared (portCleared q) = portCleared q := rfl

theorem withdrawnIf_resetPort (s : State) (p : PortId) :
    withdrawnIf (fun _ => true) (resetPort s p).engine = withdrawnIf (fun _ => true) s.engine := by
  obtain ⟨_, _, heng⟩ := freeSlotsOf_spec p s
  rw [resetPort_eq]
  show withdrawnIf _ (freeSlotsOf p s).engine = _
  rw [heng, withdrawnIf_withdrawnIf]
  exact withdrawnIf_congr (fun _ => Bool.or_true _) _

theorem resetPort_port (s : State) (p q : PortId) : (resetPort s p).ports[q]
    = if q = p then portCleared s.ports[q] else s.ports[q] := by
  rw [resetPort_eq]
  by_cases h : q = p
  · subst h
    rw [if_pos rfl]
    exact get_set_self ..
  · rw [if_neg h]
    exact get_set_ne _ (Ne.symm h) _

/-- Ports reset in a row (R159). -/
theorem foldl_resetPort (ps : List PortId) (s : State) :
    (∀ q : PortId, (ps.foldl resetPort s).ports[q]
      = if q ∈ ps then portCleared s.ports[q] else s.ports[q])
    ∧ withdrawnIf (fun _ => true) (ps.foldl resetPort s).engine
      = withdrawnIf (fun _ => true) s.engine
    ∧ (ps.foldl resetPort s).reopen
      = s.reopen.map (fun r => if r.requester ∈ ps then { r with owed := false } else r)
    ∧ ps.foldl resetPort s = { s with
      ports := (ps.foldl resetPort s).ports, slots := (ps.foldl resetPort s).slots
      captureQueue := (ps.foldl resetPort s).captureQueue, engine := (ps.foldl resetPort s).engine
      claim := (ps.foldl resetPort s).claim, doneOwed := (ps.foldl resetPort s).doneOwed
      reopen := (ps.foldl resetPort s).reopen } := by
  induction ps generalizing s with
  | nil => exact ⟨fun q => (if_neg List.not_mem_nil).symm, rfl, by simp, rfl⟩
  | cons p ps ih =>
    obtain ⟨hports, heng, hreopen, hframe⟩ := ih (resetPort s p)
    rw [List.foldl_cons]
    refine ⟨fun q => ?_, heng.trans (withdrawnIf_resetPort s p), ?_, ?_⟩
    · rw [hports, resetPort_port]
      by_cases hq : q = p
      · simp only [hq, List.mem_cons_self, if_true, portCleared_portCleared, ite_self]
      · simp only [List.mem_cons, hq, false_or, if_false]
    · have hone : (resetPort s p).reopen
          = s.reopen.map fun r => if r.requester = p then { r with owed := false } else r := by
        rw [resetPort_eq]
      rw [hreopen, hone, Option.map_map]
      refine Option.map_congr fun r _ => ?_
      by_cases hr : r.requester = p
      · simp [hr]
      · simp [hr]
    · rw [hframe]
      generalize ps.foldl resetPort (resetPort s p) = t
      rw [resetPort_eq]

/-- A frame whose phase is one of these two drives no byte in any state that follows. -/
theorem drivenBytes_none (p : PortId) {phase : FramePhase} (h : phase = .unselected ∨ phase = .abandoned)
    (run : List (State × Bool)) : ∀ b ∈ drivenBytes p phase run, b = none := by
  have hin : ∀ s, phaseIn s phase = phase := fun s => by
    rcases h with rfl | rfl
    · rfl
    · exact phaseIn_abandoned s
  induction run with
  | nil => exact fun b hb => absurd hb List.not_mem_nil
  | cons head rest ih =>
    obtain ⟨s, clocked⟩ := head
    cases clocked with
    | false =>
      show ∀ b ∈ drivenBytes p (phaseIn s phase) rest, b = none
      rw [hin]
      exact ih
    | true =>
      have hbyte : drivenByte s p phase = none := by
        unfold drivenByte
        rw [hin]
        rcases h with rfl | rfl <;> rfl
      have hafter : phaseAfterByte s p phase = phase := by
        unfold phaseAfterByte
        rw [hin]
        rcases h with rfl | rfl <;> rfl
      show ∀ b ∈ drivenByte s p phase :: drivenBytes p (phaseAfterByte s p phase) rest, b = none
      rw [hbyte, hafter]
      intro b hb
      rcases List.mem_cons.mp hb with hb | hb
      · exact hb
      · exact ih b hb

/-- A frame met by a state in which the ports take none drives nothing from then on (R159). -/
theorem drivenBytes_none_of_deaf {s : State} (h : listening s = false) (p : PortId) (phase : FramePhase)
    (clocked : Bool) (rest : List (State × Bool)) :
    ∀ b ∈ drivenBytes p phase ((s, clocked) :: rest), b = none := by
  have hdead : phaseIn s phase = .unselected ∨ phaseIn s phase = .abandoned := by
    rw [phaseIn_of_not_listening h]
    exact (ite_eq_or_eq ..)
  have hsame : drivenBytes p phase ((s, clocked) :: rest)
      = drivenBytes p (phaseIn s phase) ((s, clocked) :: rest) := by
    have hin : phaseIn s (phaseIn s phase) = phaseIn s phase := by
      rcases hdead with hp | hp <;> rw [hp]
      · rfl
      · exact phaseIn_abandoned s
    cases clocked with
    | false =>
      show drivenBytes p (phaseIn s phase) rest = drivenBytes p (phaseIn s (phaseIn s phase)) rest
      rw [hin]
    | true =>
      have hafter : phaseAfterByte s p (phaseIn s phase) = phaseAfterByte s p phase := by
        unfold phaseAfterByte
        rw [hin]
      show drivenByte s p phase :: drivenBytes p (phaseAfterByte s p phase) rest
        = drivenByte s p (phaseIn s phase)
          :: drivenBytes p (phaseAfterByte s p (phaseIn s phase)) rest
      rw [drivenByte_of_not_listening h, drivenByte_of_not_listening h, hafter]
  rw [hsame]
  exact drivenBytes_none p hdead _

/-- The part as RESET leaves it, before the level is let go (R159). -/
theorem exec_resetPin {s : State} (hl : s.resetLow = false) (hu : s.portsUp = true) :
    exec .resetPin s = .next { freeAllSlots (([0, 1, 2] : List PortId).foldl resetPort
      { s with ports := s.ports.map abandoned, resetLow := true }) with
        claim := none, doneOwed := false } :=
  (congrArg Host.Outcome.next (if_neg (by rw [hl]; exact Bool.false_ne_true))).trans
    (congrArg Host.Outcome.next (if_pos hu))

/-- Settles O51, the ports reset in a row, and a frame that stays abandoned. -/
theorem resetPinResetsThePorts : Obligations.ResetPinResetsThePorts := by
  intro s
  refine ⟨fun hl hu => ?_, fun hl hu => ?_, rfl, fun hl p phase clocked rest => ⟨fun hp => ?_, ?_⟩,
    fun hl hu p phase => ⟨?_, ?_, ?_⟩⟩
  · let low : State := { s with ports := s.ports.map abandoned, resetLow := true }
    obtain ⟨hports, heng, hreopen, hframe⟩ := foldl_resetPort [0, 1, 2] low
    have hall : ∀ p : PortId, p ∈ ([0, 1, 2] : List PortId) := by decide
    refine ⟨_, exec_resetPin hl hu, ?_⟩
    show _ ∧ _
    generalize ([0, 1, 2] : List PortId).foldl resetPort low = u at hports heng hreopen hframe
    rw [freeAllSlots_frame]
    refine ⟨?_, fun p => ?_, (freeAllSlots_free u).1, (freeAllSlots_free u).2, rfl, rfl, ?_, ?_,
      ?_⟩
    · rw [hframe]
    · refine (hports p).trans ?_
      rw [if_pos (hall p)]
      exact congrArg portCleared (get_map_ports abandoned s p)
    · refine hreopen.trans ?_
      simp only [hall, if_true]
      rfl
    · show (freeAllSlots u).engine = _
      rw [freeAllSlots_engine, heng]
      show withdrawnIf (fun _ => true) s.engine = _
      cases s.engine with
      | capturing j w copies stamp => simp only [withdrawnIf, Bool.or_true]
      | halted | ready | applying | closing => rfl
    · rw [hframe]
  · exact (congrArg Host.Outcome.next (if_neg (by rw [hl]; exact Bool.false_ne_true))).trans
      (congrArg Host.Outcome.next (if_neg (by rw [hu]; exact Bool.false_ne_true)))
  · have hdeaf : listening s = false := by rw [listening, hl]; exact Bool.and_false _
    rw [phaseIn_of_not_listening hdeaf, if_neg hp]
  · exact drivenBytes_none_of_deaf (by rw [listening, hl]; exact Bool.and_false _) p phase clocked rest
  · exact phaseIn_of_listening (by rw [listening, hl, hu]; rfl) phase
  · exact drivenByte_abandoned s p
  · have hhears : listening s = true := by rw [listening, hl, hu]; rfl
    unfold drivenByte
    rw [phaseIn_of_listening hhears]
    cases s.ports[p].wire <;> rfl

end Sys2Proof.Machine
end

section
/-! Drain entry (R26, R130, R131, R156, R160, R183, R187, R188). -/

namespace Sys2Proof.Machine

/-! ### The commands answered POWER_FAIL -/

/-- What a waiting command is answered in drain (R149, R188). -/
def drainStatus (w : Execution) : Status :=
  if known w.command.kind = false then .unknownCommand
  else if lengthAllowed w.command.kind w.command.args.length = false then .badLength
  else .powerFail

/-- A port whose commands have been answered at drain entry (R160). -/
def commandsFailed (counter : BitVec 32) (q : Port) : Port :=
  match q.execution, q.waiting with
  | none, _ => q
  | some ex, none => finished q ex .powerFail [] counter
  | some ex, some w =>
    finished { finished q ex .powerFail [] counter with waiting := none } w (drainStatus w) [] counter

theorem commandsFailed_idle (counter : BitVec 32) {q : Port} (hex : q.execution = none) :
    commandsFailed counter q = q := by
  unfold commandsFailed
  rw [hex]

theorem commandsFailed_one (counter : BitVec 32) {q : Port} {ex : Execution}
    (hex : q.execution = some ex) (hw : q.waiting = none) :
    commandsFailed counter q = finished q ex .powerFail [] counter := by
  unfold commandsFailed
  rw [hex, hw]

theorem commandsFailed_two (counter : BitVec 32) {q : Port} {ex w : Execution}
    (hex : q.execution = some ex) (hw : q.waiting = some w) :
    commandsFailed counter q = finished { finished q ex .powerFail [] counter with waiting := none } w
      (drainStatus w) [] counter := by
  unfold commandsFailed
  rw [hex, hw]

theorem commonRefusal_drain (p : PortId) {s : State} (h : s.supply = .drain) (w : Execution) :
    commonRefusal p w.command s = some (drainStatus w) := by
  unfold commonRefusal drainStatus
  rw [if_pos h, apply_ite some, apply_ite some]

/-- Drain entry at one port that is in drain already. -/
theorem failWaiting_eq (p : PortId) {s : State} (h : s.supply = .drain) :
    failWaiting s p = onPort p (commandsFailed s.store.applicationCounter) s := by
  unfold failWaiting
  rcases hex : s.ports[p].execution with _ | ex
  · unfold onPort
    rw [commandsFailed_idle _ hex, set_self]
  · have hport := onPort_port_self p (finished · ex .powerFail [] s.store.applicationCounter) s
    show takeWaiting (onPort p (finished · ex .powerFail [] s.store.applicationCounter) s) p = _
    rcases hw : s.ports[p].waiting with _ | w
    · rw [takeWaiting_stays (.inr (by rw [hport]; exact hw))]
      exact onPort_congr (commandsFailed_one _ hex hw).symm
    · rw [takeWaiting_runs (by rw [hport]; rfl) (by rw [hport]; exact hw),
        runOne_refused (commonRefusal_drain p (s := onPort p _ (onPort p _ s)) h w), onPort_onPort]
      exact (onPort_onPort p _ _ s).trans (onPort_congr (commandsFailed_two _ hex hw).symm)

/-- Drain entry at ports in a row. -/
theorem foldl_failWaiting {ps : List PortId} (hnd : ps.Nodup) {s : State} (h : s.supply = .drain) :
    (ps.foldl failWaiting s) = { s with ports := (ps.foldl failWaiting s).ports }
    ∧ ∀ q : PortId, (ps.foldl failWaiting s).ports[q] = if q ∈ ps then
        commandsFailed s.store.applicationCounter s.ports[q] else s.ports[q] := by
  induction ps generalizing s with
  | nil => exact ⟨rfl, fun q => (if_neg List.not_mem_nil).symm⟩
  | cons p ps ih =>
    obtain ⟨hp, hnd⟩ := List.nodup_cons.mp hnd
    rw [List.foldl_cons, failWaiting_eq p h]
    obtain ⟨hframe, hports⟩ := ih (s := onPort p (commandsFailed s.store.applicationCounter) s) hnd h
    refine ⟨hframe, fun q => ?_⟩
    rw [hports]
    by_cases hq : p = q
    · subst hq
      rw [if_neg hp, if_pos (List.mem_cons_self ..), onPort_port_self]
    · rw [onPort_port_ne hq]
      simp only [List.mem_cons, Ne.symm hq, false_or]
      rfl

/-! ### The state of drain entry before the commands are answered -/

theorem drained_eq (s : State) : drained s = { s with
    supply := .drain, claim := none, latch := false
    ports := s.ports.map emptyNotices
    inputs := s.inputs.map fun i => { i with eligible := false }
    reopen := if s.store.mode = .enteringSetup ∧ s.closeState = .idle then none else s.reopen
    store := { s.store with
      mode := if s.store.mode = .enteringSetup ∧ s.closeState = .idle then .run else s.store.mode
      chains := { s.store.chains with demand := held s.store.chains.demand } } } := by
  unfold drained resolveReopen
  dsimp only
  by_cases h : s.store.mode = .enteringSetup ∧ s.closeState = .idle
  · simp only [if_pos h]
    rfl
  · simp only [if_neg h]
    rfl

/-- Drain entry in one piece. -/
theorem enterDrain_frame (s : State) : ∃ ports : Vector Port 3,
    enterDrain s = { drained (freeAllSlots s) with ports := ports }
    ∧ ∀ p : PortId,
      ports[p] = commandsFailed s.store.applicationCounter (emptyNotices s.ports[p]) := by
  obtain ⟨hframe, hports⟩ := foldl_failWaiting (ps := [0, 1, 2]) (by decide)
    (drained_supply (freeAllSlots s))
  have hall : ∀ p : PortId, p ∈ ([0, 1, 2] : List PortId) := by decide
  have hcounter : (drained (freeAllSlots s)).store.applicationCounter = s.store.applicationCounter := by
    rw [drained_eq, freeAllSlots_frame]
  refine ⟨_, (enterDrain_eq s).trans hframe, fun p => ?_⟩
  have hport : (drained (freeAllSlots s)).ports[p] = emptyNotices s.ports[p] := by
    rw [drained_eq, freeAllSlots_frame]
    exact get_map_ports emptyNotices s p
  rw [hports, if_pos (hall p), hcounter, hport]

/-- Settles O47, from the state in drain, its ports answered one by one. -/
theorem drainEntryStopsTheOutside : Obligations.DrainEntryStopsTheOutside := by
  refine ⟨fun s hs => ?_, ?_⟩
  · have hu : s.supply ≠ .unpowered := by rcases hs with h | h | h <;> rw [h] <;> decide
    have hr : s.supply ≠ .runSupply := by rcases hs with h | h | h <;> rw [h] <;> decide
    exact congrArg Host.Outcome.next ((if_neg hu).trans (if_neg hr))
  · intro s hs failed
    have hu : s.supply ≠ .unpowered := by rw [hs]; decide
    let asserted : State := { s with pfailAsserted := true }
    have hexec : exec .drainEntry s = .next (enterDrain asserted) :=
      congrArg Host.Outcome.next ((if_neg hu).trans (if_pos hs))
    obtain ⟨hslots, hqueue⟩ := freeAllSlots_free asserted
    have heng := freeAllSlots_engine asserted
    obtain ⟨ports, hdrain, hports⟩ := enterDrain_frame asserted
    refine ⟨_, hexec, ?_⟩
    rw [hdrain, drained_eq, freeAllSlots_frame]
    refine ⟨rfl, rfl, rfl, rfl, fun p => ?_, hslots, hqueue, fun n => get_map .., rfl, rfl, ?_, rfl⟩
    · refine (hports p).trans ?_
      rcases hex : s.ports[p].execution with _ | ex <;> rcases hw : s.ports[p].waiting with _ | w
      · exact commandsFailed_idle _ hex
      · exact commandsFailed_idle _ hex
      · exact commandsFailed_one _ (q := emptyNotices s.ports[p]) hex hw
      · exact commandsFailed_two _ (q := emptyNotices s.ports[p]) hex hw
    · refine heng.trans ?_
      show withdrawnIf (fun _ => true) s.engine = _
      cases s.engine with
      | capturing j w copies stamp => simp only [withdrawnIf, Bool.or_true]
      | halted | ready | applying | closing => rfl

end Sys2Proof.Machine
end

section
/-! A list of registers verified (R15, R16), and the application that the engine begins (R33, R35). -/

namespace Sys2Proof.Machine

/-! ### Registers verified in a row -/

theorem checkMatches_checked (s : State) (i : RegSlot) (r : RegisterRec) :
    checkMatches s i { r with check := registerCheck i (scaleOf s r.quantity) r } = true :=
  beq_self_eq_true _

/-- A record that has been verified matches, where it is bound at all. -/
theorem verifiedRecord_matches (s : State) (i : RegSlot) :
    (verifiedRecord s i).state = .free ∨ checkMatches s i (verifiedRecord s i) = true := by
  unfold verifiedRecord
  dsimp only
  by_cases h : s.store.registers[i].state = .free ∨ checkMatches s i s.store.registers[i] = true
  · rw [if_pos h]
    exact h
  · rw [if_neg h]
    exact .inr (checkMatches_checked s i _)

/-- A verification stays what it is when others go before or after it. -/
theorem verifiedRecord_verifyRegister (f : FoundAt) (s : State) (i j : RegSlot) :
    verifiedRecord (verifyRegister f s i) j = verifiedRecord s j := by
  have hcheck := fun r => checkMatches_verifyRegister f s i j r
  by_cases hij : i = j
  · subst hij
    have hself := verifyRegister_register_self f s i
    refine Eq.trans ?_ hself
    refine if_pos ?_
    rw [hcheck, hself]
    exact verifiedRecord_matches s i
  · unfold verifiedRecord scaleOf
    rw [verifyRegister_store_quantities, verifyRegister_register_ne f s hij]
    simp only [hcheck]

/-- What a run of verifications leaves in each slot. -/
theorem foldl_verifyRegister_get (f : FoundAt) (is : List RegSlot) (s : State) (j : RegSlot) :
    (is.foldl (verifyRegister f) s).store.registers[j]
      = if j ∈ is then verifiedRecord s j else s.store.registers[j] := by
  induction is generalizing s with
  | nil => exact (if_neg List.not_mem_nil).symm
  | cons i is ih =>
    rw [List.foldl_cons, ih, verifiedRecord_verifyRegister]
    by_cases hij : i = j
    · subst hij
      rw [verifyRegister_register_self, ite_self, if_pos List.mem_cons_self]
    · rw [verifyRegister_register_ne f s hij]
      simp only [List.mem_cons, Ne.symm hij, false_or]

theorem foldl_verifyRegister_suspect (f : FoundAt) {is : List RegSlot} (s : State) {j : RegSlot}
    (hj : j ∈ is) (hb : s.store.registers[j].state ≠ .free)
    (hm : checkMatches s j s.store.registers[j] = false) :
    (is.foldl (verifyRegister f) s).store.registers[j].state = .suspect := by
  rw [foldl_verifyRegister_get, if_pos hj]
  exact verifiedRecord_suspect s j hb hm

theorem foldl_verifyRegister_eq (f : FoundAt) (is : List RegSlot) (s : State) :
    is.foldl (verifyRegister f) s = { s with
      ports := (is.foldl (verifyRegister f) s).ports
      store := { s.store with registers := (is.foldl (verifyRegister f) s).store.registers } } := by
  obtain ⟨ps, regs, h⟩ := foldl_verifyRegister_frame f is s
  rw [h]

theorem foldl_verifyRegister_of_matches (f : FoundAt) {is : List RegSlot} {s : State}
    (h : ∀ i ∈ is, checkMatches s i s.store.registers[i] = true) :
    is.foldl (verifyRegister f) s = s := by
  induction is with
  | nil => rfl
  | cons i is ih =>
    rw [List.foldl_cons, verifyRegister_of_matches f s i (.inr (h i List.mem_cons_self))]
    exact ih fun j hj => h j (List.mem_cons_of_mem i hj)

/-! ### The targets of an entry -/

theorem find?_finRange_eq_some_iff {n : Nat} {q : Fin n → Bool} {i : Fin n} :
    (List.finRange n).find? q = some i ↔ q i = true ∧ ∀ j < i, q j = false := by
  rw [← Fin.find?_eq_find?_finRange, Fin.find?_eq_some_iff]

/-- A register bound to a pair (R17). -/
def BoundTo (st : Store) (q : Quantity) (sel : BitVec 3) (i : RegSlot) : Prop :=
  st.registers[i].state ≠ .free ∧ st.registers[i].quantity = q ∧ st.registers[i].selector = sel

/-- The register that holds a pair: the lowest that is not SUSPECT, or the lowest where all are (R35). -/
def ChosenFor (st : Store) (q : Quantity) (sel : BitVec 3) (i : RegSlot) : Prop :=
  BoundTo st q sel i
    ∧ ((st.registers[i].state ≠ .suspect
        ∧ ∀ j < i, BoundTo st q sel j → st.registers[j].state = .suspect)
      ∨ ((∀ j, BoundTo st q sel j → st.registers[j].state = .suspect)
        ∧ ∀ j < i, ¬ BoundTo st q sel j))

theorem targetFor_iff (st : Store) (q : Quantity) (sel : BitVec 3) (i : RegSlot) :
    targetFor st q sel = some i ↔ ChosenFor st q sel i := by
  let bound (i : RegSlot) : Bool := st.registers[i].state != .free && st.registers[i].quantity == q
    && st.registers[i].selector == sel
  have hbound : ∀ j, bound j = true ↔ BoundTo st q sel j := fun j => by
    show (_ && _ && _) = true ↔ _
    rw [Bool.and_eq_true, Bool.and_eq_true, bne_iff_ne, beq_iff_eq, beq_iff_eq, and_assoc]
    exact Iff.rfl
  have hnot : ∀ j, bound j = false ↔ ¬ BoundTo st q sel j := fun j => by
    rw [← hbound, Bool.not_eq_true]
  have hlive : ∀ j, decide (bound j = true ∧ (st.registers[j].state != .suspect) = true) = true
      ↔ BoundTo st q sel j ∧ st.registers[j].state ≠ .suspect := fun j => by
    rw [decide_eq_true_iff, hbound, bne_iff_ne]
  have hdead : ∀ j, decide (bound j = true ∧ (st.registers[j].state != .suspect) = true) = false
      ↔ (BoundTo st q sel j → st.registers[j].state = .suspect) := fun j => by
    rw [← Bool.not_eq_true, hlive, not_and, not_not]
  have heq : targetFor st q sel = match ((List.finRange 32).filter bound).find?
      (fun i => st.registers[i].state != .suspect) with
    | some i => some i
    | none => ((List.finRange 32).filter bound).head? := rfl
  rw [heq, List.find?_filter, List.head?_filter]
  rcases hfind : (List.finRange 32).find?
    (fun i => decide (bound i = true ∧ (st.registers[i].state != .suspect) = true)) with _ | k
  · have hall : ∀ j, BoundTo st q sel j → st.registers[j].state = .suspect := fun j => by
      have hj := List.find?_eq_none.mp hfind j (List.mem_finRange j)
      rw [Bool.not_eq_true] at hj
      exact (hdead j).mp hj
    show (List.finRange 32).find? bound = some i ↔ _
    rw [find?_finRange_eq_some_iff, hbound]
    simp only [hnot]
    refine and_congr_right fun hi => ⟨fun h => .inr ⟨hall, h⟩, fun h => ?_⟩
    rcases h with ⟨hne, _⟩ | ⟨_, h⟩
    · exact absurd (hall i hi) hne
    · exact h
  · have hk := find?_finRange_eq_some_iff.mp hfind
    rw [hlive] at hk
    simp only [hdead] at hk
    obtain ⟨⟨hkb, hkl⟩, hkd⟩ := hk
    show some k = some i ↔ _
    rw [Option.some.injEq]
    constructor
    · rintro rfl
      exact ⟨hkb, .inl ⟨hkl, hkd⟩⟩
    · rintro ⟨hib, ⟨hil, hid⟩ | ⟨hall, _⟩⟩
      · rcases lt_trichotomy k i with h | h | h
        · exact absurd (hid k h hkb) hkl
        · exact h
        · exact absurd (hkd i h hib) hil
      · exact absurd (hall k hkb) hkl

theorem tariffSelector_ne_all (t : Tariff) : tariffSelector t ≠ selectorAll := by
  cases t <;> decide

/-- The targets are the register of the tariff and the ALL register, lower slot first (R35). -/
theorem targetsOf_spec (st : Store) (e : Increment) :
    (∀ i : RegSlot, i ∈ targetsOf st e ↔ ChosenFor st e.quantity (tariffSelector e.stamp) i
      ∨ ChosenFor st e.quantity selectorAll i)
    ∧ (targetsOf st e).Pairwise (· < ·) := by
  have hne : ∀ i, targetFor st e.quantity (tariffSelector e.stamp) = some i →
      targetFor st e.quantity selectorAll ≠ some i := by
    intro i hi hj
    obtain ⟨⟨_, _, hsel⟩, _⟩ := (targetFor_iff st _ _ i).mp hi
    obtain ⟨⟨_, _, hall⟩, _⟩ := (targetFor_iff st _ _ i).mp hj
    exact tariffSelector_ne_all e.stamp (hsel.symm.trans hall)
  simp only [← targetFor_iff]
  unfold targetsOf
  rcases hi : targetFor st e.quantity (tariffSelector e.stamp) with _ | i <;>
    rcases hj : targetFor st e.quantity selectorAll with _ | j
  · exact ⟨fun k => by simp, List.Pairwise.nil⟩
  · exact ⟨fun k => by simp [eq_comm], List.pairwise_singleton ..⟩
  · exact ⟨fun k => by simp [eq_comm], List.pairwise_singleton ..⟩
  · have hij : i ≠ j := fun h => hne i hi (hj.trans (congrArg some h.symm))
    dsimp only
    by_cases hlt : i < j
    · rw [if_pos hlt]
      exact ⟨fun k => by simp [eq_comm], List.pairwise_pair.mpr hlt⟩
    · rw [if_neg hlt]
      exact ⟨fun k => by simp [eq_comm, or_comm],
        List.pairwise_pair.mpr (lt_of_le_of_ne (not_lt.mp hlt) (Ne.symm hij))⟩

theorem chosenFor_bound {st : Store} {e : Increment} {i : RegSlot} (h : i ∈ targetsOf st e) :
    st.registers[i].state ≠ .free := by
  obtain ⟨hmem, _⟩ := targetsOf_spec st e
  rcases (hmem i).mp h with ⟨⟨hfree, _⟩, _⟩ | ⟨⟨hfree, _⟩, _⟩ <;> exact hfree

theorem startApplication_eq (e : Increment) (rest : List Increment) (s : State) :
    startApplication e rest s
      = { (targetsOf s.store e).foldl (verifyRegister .apply) { s with queue := rest } with
        engine := .applying e ((targetsOf s.store e).map fun i => ⟨i,
          ((targetsOf s.store e).foldl (verifyRegister .apply)
            { s with queue := rest }).store.registers[i]⟩) } := rfl

/-- Settles O21, from the targets that `targetsOf` finds, verified in order. -/
theorem applicationStartTakesTheHead : Obligations.ApplicationStartTakesTheHead := by
  intro e rest s hq hsp hc hcap bound chosen
  have hexec : exec .applicationStart s = .next (startApplication e rest s) := by
    show execApplicationStart s = _
    unfold execApplicationStart
    rw [hq]
    exact congrArg Host.Outcome.next (if_pos ⟨hsp, beq_false_of_ne hc, hcap⟩)
  obtain ⟨hmem, hsorted⟩ := targetsOf_spec s.store e
  let u : State := { s with queue := rest }
  have hframe := foldl_verifyRegister_eq .apply (targetsOf s.store e) u
  have hports := foldl_verifyRegister_port .apply (targetsOf s.store e)
    (hsorted.imp fun h => ne_of_lt h) u
  have hself : ∀ i, i ∉ targetsOf s.store e ∨ checkMatches s i s.store.registers[i] = true →
      ((targetsOf s.store e).foldl (verifyRegister .apply) u).store.registers[i]
        = s.store.registers[i] :=
    fun i hi => foldl_verifyRegister_register .apply _ u i (hi.imp_right .inr)
  have hsuspect := fun i (hi : i ∈ targetsOf s.store e) =>
    foldl_verifyRegister_suspect .apply u hi (chosenFor_bound hi)
  have hall := foldl_verifyRegister_of_matches .apply (is := targetsOf s.store e) (s := u)
  refine ⟨_, targetsOf s.store e, hexec, hmem, hsorted, ?_⟩
  rw [startApplication_eq]
  generalize (targetsOf s.store e).foldl (verifyRegister .apply) { s with queue := rest } = v
    at hframe hports hself hsuspect hall
  refine ⟨?_, rfl, hself, hsuspect, hports, fun h => ?_, ?_⟩
  · rw [hframe]
  · have hports := congrArg State.ports (hall h)
    exact hports
  · rw [hframe]

end Sys2Proof.Machine
end

section
/-! The completion of an application (R9 to R13, R36, R41, R42). -/

namespace Sys2Proof.Machine

/-! ### The targets committed -/

/-- The record that a completion leaves in a target's slot (R9, R15). -/
def committedRecord (amount : Nat) (s : State) (x : Target) : RegisterRec :=
  if takesAmount s x then
    let r := applyAmount (scaleOf s x.record.quantity) amount x.record
    { r with check := registerCheck x.slot (scaleOf s r.quantity) r }
  else s.store.registers[x.slot]

theorem commitTarget_register_self (amount : Nat) (s : State) (x : Target) :
    (commitTarget amount s x).store.registers[x.slot] = committedRecord amount s x := by
  unfold commitTarget committedRecord
  by_cases h : takesAmount s x = true
  · rw [if_pos h, if_pos h]
    exact putRegister_register_self ..
  · rw [if_neg h, if_neg h]

theorem commitTarget_register_ne (amount : Nat) (s : State) {x : Target} {i : RegSlot}
    (h : x.slot ≠ i) : (commitTarget amount s x).store.registers[i] = s.store.registers[i] := by
  unfold commitTarget
  by_cases ht : takesAmount s x = true
  · rw [if_pos ht]
    exact putRegister_register_ne h _ s
  · rw [if_neg ht]

theorem committedRecord_commitTarget (amount : Nat) (s : State) {x y : Target} (h : x.slot ≠ y.slot) :
    committedRecord amount (commitTarget amount s x) y = committedRecord amount s y := by
  have hreg := commitTarget_register_ne amount s h
  rw [commitTarget_frame] at hreg ⊢
  unfold committedRecord takesAmount scaleOf
  rw [hreg]

/-- Targets of different slots committed in a row: each as it stood. -/
theorem foldl_commitTarget_get (amount : Nat) {ts : List Target} (hnd : (ts.map (·.slot)).Nodup)
    (s : State) :
    (∀ x ∈ ts, (ts.foldl (commitTarget amount) s).store.registers[x.slot] = committedRecord amount s x)
    ∧ ∀ i ∉ ts.map (·.slot),
      (ts.foldl (commitTarget amount) s).store.registers[i] = s.store.registers[i] := by
  induction ts generalizing s with
  | nil => exact ⟨fun x hx => absurd hx List.not_mem_nil, fun _ _ => rfl⟩
  | cons y ts ih =>
    rw [List.map_cons] at hnd
    obtain ⟨hy, hnd⟩ := List.nodup_cons.mp hnd
    obtain ⟨hin, hout⟩ := ih hnd (commitTarget amount s y)
    rw [List.foldl_cons]
    refine ⟨fun x hx => ?_, fun i hi => ?_⟩
    · rcases List.mem_cons.mp hx with rfl | hx
      · rw [hout _ hy, commitTarget_register_self]
      · have hne : y.slot ≠ x.slot := fun h => hy (h ▸ List.mem_map_of_mem hx)
        rw [hin x hx, committedRecord_commitTarget amount s hne]
    · rw [List.map_cons, List.mem_cons, not_or] at hi
      rw [hout i hi.2, commitTarget_register_ne amount s (Ne.symm hi.1)]

/-! ### The notices and the hand-off -/

theorem applicationTold_port (e : Increment) (targets : List Target) (s : State) (p : PortId) :
    (applicationTold e targets s).ports[p]
      = told s (targets.filterMap (overflowOf s e.amount)) p := by
  obtain ⟨regs, hr⟩ := foldl_commitTarget_frame e.amount targets s
  unfold applicationTold
  rw [foldl_raise_port, hr]
  rfl

theorem applicationTold_registers (e : Increment) (targets : List Target) (s : State) :
    (applicationTold e targets s).store.registers
      = (targets.foldl (commitTarget e.amount) s).store.registers := by
  obtain ⟨ps, hp⟩ := foldl_raise_frame (targets.filterMap (overflowOf s e.amount))
    (targets.foldl (commitTarget e.amount) s)
  rw [applicationTold, hp]

/-- The hand-off of an application at one channel (R42). -/
theorem completeApplication_accumulator (e : Increment) (targets : List Target) (s : State)
    (c : ChannelId) : (completeApplication e targets s).accumulators[c]
      = if s.store.channels[c].quantity = some e.quantity then
          min (s.accumulators[c] + e.amount) demandLimit
        else s.accumulators[c] := by
  obtain ⟨ps, regs, hf⟩ := applicationTold_frame e targets s
  have hof : (completeApplication e targets s).accumulators[c]
      = if (applicationTold e targets s).store.channels[c].quantity = some e.quantity then
          min ((applicationTold e targets s).accumulators[c] + e.amount) demandLimit
        else (applicationTold e targets s).accumulators[c] := Vector.getElem_ofFn ..
  rw [hof, hf]

theorem byte_policyNat (x : Policy) : byte (policyNat x) = if x = .wrap then 0 else 1 := by
  cases x <;> rfl

/-- The OVERFLOW notice of a target, from the record that its slot holds then (R13). -/
theorem overflowOf_eq (s : State) (amount : Nat) (x : Target) (r : RegisterRec)
    (hr : r = committedRecord amount s x) : overflowOf s amount x
      = if (takesAmount s x && decide (capacity (scaleOf s x.record.quantity) x.record
            ≤ registerTotal (scaleOf s x.record.quantity) x.record + amount)) = true then
          some ⟨.overflow, byte x.slot.val, byte x.record.quantity.val, byte x.record.selector.toNat,
            if x.record.policy = .wrap then 0 else 1, byte r.wrapCount.toNat⟩
        else none := by
  unfold overflowOf overflows
  dsimp only
  by_cases h : takesAmount s x = true
  · have hwrap : r.wrapCount
        = (applyAmount (scaleOf s x.record.quantity) amount x.record).wrapCount := by
      rw [hr, committedRecord, if_pos h]
    rw [h, Bool.true_and, hwrap, overflowNotice, byte_policyNat, applyAmount_frame]
    exact if_congr (and_iff_right rfl) rfl rfl
  · rw [if_neg fun hand => h hand.1, if_neg fun hand => h (Bool.and_eq_true _ _ ▸ hand).1]

/-- Settles O22, from the targets committed in order, each as it stood. -/
theorem applicationCompletionCommits : Obligations.ApplicationCompletionCommits := by
  intro e targets s he hnd takes
  have hexec : exec .applicationCompletion s = .next (completeApplication e targets s) := by
    show execApplicationCompletion s = _
    unfold execApplicationCompletion
    rw [he]
  obtain ⟨hin, hout⟩ := foldl_commitTarget_get e.amount hnd s
  have hregs := applicationTold_registers e targets s
  have hports := applicationTold_port e targets s
  refine ⟨_, hexec, ?_⟩
  have hacc := completeApplication_accumulator e targets s
  rw [completeApplication_eq]
  generalize (completeApplication e targets s).accumulators = acc at hacc
  rw [← hregs] at hin hout
  obtain ⟨ps, regs, hframe⟩ := applicationTold_frame e targets s
  generalize applicationTold e targets s = v at hin hout hports hframe
  refine ⟨rfl, ?_, hacc, fun x hx => ?_, hout, fun p => ?_, ?_, fun hno => ?_⟩
  · rw [hframe]
  · refine (hin x hx).trans ?_
    unfold committedRecord
    rw [if_congr (takesAmount_iff s x) rfl rfl]
  · refine (hports p).trans (congrArg (told s · p) ?_)
    rw [map_filter_eq_filterMap]
    refine List.filterMap_congr fun x hx => ?_
    exact overflowOf_eq s e.amount x _ (hin x hx)
  · rw [hframe]
  · have hnil : targets.filterMap (overflowOf s e.amount) = [] := List.filterMap_eq_nil_iff.mpr hno
    refine Vector.ext fun k hk => (hports ⟨k, hk⟩).trans ?_
    rw [hnil]
    exact told_nil s ⟨k, hk⟩

end Sys2Proof.Machine
end

section
/-! The engine takes a close: the archived registers verified, the record built, and room made for it
(R39, R103 to R106). -/

namespace Sys2Proof.Machine

/-! ### The archived registers -/

theorem archived_verifyRegister (f : FoundAt) (s : State) (i j : RegSlot) :
    archived (verifyRegister f s i).store j = archived s.store j := by
  unfold archived
  by_cases hij : i = j
  · subst hij
    obtain ⟨_, _, _, _, harchive, _⟩ := verifiedRecord_bound s i
    rw [verifyRegister_register_self, harchive]
    refine congrArg (· && _) (Bool.eq_iff_iff.mpr ?_)
    rw [bne_iff_ne, bne_iff_ne]
    exact not_congr (verifiedRecord_free_iff s i)
  · rw [verifyRegister_register_ne f s hij]

theorem archived_foldl_verifyRegister (f : FoundAt) (is : List RegSlot) (s : State) (j : RegSlot) :
    archived (is.foldl (verifyRegister f) s).store j = archived s.store j := by
  induction is generalizing s with
  | nil => rfl
  | cons i is ih => rw [List.foldl_cons, ih, archived_verifyRegister]

/-- The verification of the archived registers, as one of a list that the start knows (R103). -/
theorem verifyArchived_eq (s : State) : verifyArchived s
    = ((List.finRange 32).filter (archived s.store)).foldl (verifyRegister .close) s := by
  unfold verifyArchived
  generalize List.finRange 32 = is
  induction is generalizing s with
  | nil => rfl
  | cons i is ih =>
    rw [List.foldl_cons, ih]
    by_cases h : archived s.store i = true
    · rw [if_pos h, List.filter_cons_of_pos h, List.foldl_cons,
        funext (archived_verifyRegister .close s i)]
    · rw [if_neg h, List.filter_cons_of_neg h]

theorem archived_bound {st : Store} {i : RegSlot} (h : archived st i = true) :
    st.registers[i].state ≠ .free := by
  unfold archived at h
  exact bne_iff_ne.mp (Bool.and_eq_true _ _ ▸ h).1

/-! ### Room for the record -/

/-- Whether a record of a size fits behind the entries (R106). -/
def Fits (size : Nat) (es : List LogEntry) : Prop :=
  es.length < logRecordLimit ∧ bytesUsed es + size ≤ logByteLimit

/-- No fewer records leave the log than must (R106). -/
theorem trimmed_fewest (size : Nat) (es : List LogEntry) :
    ∀ m < es.length - (trimmed size es).length, ¬ Fits size (es.drop m) := by
  induction es with
  | nil => exact fun m hm => absurd hm (Nat.not_lt_zero m)
  | cons e es ih =>
    intro m hm
    unfold trimmed at hm
    by_cases hfits : (e :: es).length < logRecordLimit ∧ bytesUsed (e :: es) + size ≤ logByteLimit
    · rw [if_pos hfits, Nat.sub_self] at hm
      exact absurd hm (Nat.not_lt_zero m)
    · rw [if_neg hfits] at hm
      cases m with
      | zero => exact hfits
      | succ m =>
        refine ih m ?_
        rw [List.length_cons] at hm
        omega

/-- The log after the older records have left it (R106). -/
def roomMade (log : PeriodLog) (kept : List LogEntry) : PeriodLog :=
  if log.entries.length - kept.length = 0 then log else logOf kept

/-- The start of WRITING, from the state whose archived registers are verified. -/
def writingBegun (record : List Byte) (kept : List LogEntry) (v : State) : State :=
  { v with
    store := { v.store with log := roomMade v.store.log kept }
    closeState := .writing, engine := .closing
    building := some ⟨record, v.store.log.entries.length - kept.length⟩ }

theorem writingBegun_eq (record : List Byte) (kept : List LogEntry) (v : State) :
    { (if v.store.log.entries.length - kept.length = 0 then v
        else onStore (fun st => { st with log := logOf kept }) v) with
      closeState := .writing, engine := .closing
      building := some ⟨record, v.store.log.entries.length - kept.length⟩ }
      = writingBegun record kept v := by
  unfold writingBegun roomMade
  by_cases h : v.store.log.entries.length - kept.length = 0
  · simp only [if_pos h]
  · simp only [if_neg h]
    rfl

theorem startWriting_eq (c : CurrentClose) (s : State) : startWriting c s
    = writingBegun (buildRecord (verifyArchived s).store c)
        (trimmed (buildRecord (verifyArchived s).store c).length (verifyArchived s).store.log.entries)
        (verifyArchived s) :=
  writingBegun_eq _ _ _

theorem roomMade_entries {log : PeriodLog} {size : Nat} (hsize : size ≤ logByteLimit) :
    (roomMade log (trimmed size log.entries)).entries = trimmed size log.entries := by
  obtain ⟨hdrop, _⟩ := trimmed_spec size log.entries hsize
  unfold roomMade
  by_cases h : log.entries.length - (trimmed size log.entries).length = 0
  · rw [if_pos h]
    rw [h] at hdrop
    exact hdrop.symm
  · rw [if_neg h]
    rfl

/-- Settles O32, from the archived registers verified in order and the log that `trimmed` leaves. -/
theorem writingStartBuildsTheRecord : Obligations.WritingStartBuildsTheRecord := by
  intro c s hc he hsp hw
  have hservice : atServicePoint s = true := by
    unfold atServicePoint
    rw [he, Bool.and_eq_true, Bool.or_eq_true, bne_iff_ne, beq_iff_eq (b := SupplyState.drain)]
    exact ⟨rfl, hsp⟩
  have hexec : exec .writingStart s = .next (startWriting c s) := by
    show execWritingStart s = _
    unfold execWritingStart
    rw [hc]
    exact congrArg Host.Outcome.next (if_pos ⟨hservice, beq_iff_eq.mpr hw⟩)
  let slots := (List.finRange 32).filter (archived s.store)
  have hslot : ∀ i, i ∈ slots ↔ archived s.store i = true := fun i => by
    rw [List.mem_filter]
    exact and_iff_right (List.mem_finRange i)
  have hframe := foldl_verifyRegister_eq .close slots s
  have hports := foldl_verifyRegister_port .close slots ((List.nodup_finRange 32).filter _) s
  have hself : ∀ i, archived s.store i = false ∨ checkMatches s i s.store.registers[i] = true →
      (slots.foldl (verifyRegister .close) s).store.registers[i] = s.store.registers[i] := fun i hi =>
    foldl_verifyRegister_register .close slots s i
      (hi.imp (fun h hm => Bool.false_ne_true (h.symm.trans ((hslot i).mp hm))) .inr)
  have hsuspect : ∀ i, archived s.store i = true → checkMatches s i s.store.registers[i] = false →
      (slots.foldl (verifyRegister .close) s).store.registers[i].state = .suspect := fun i hi =>
    foldl_verifyRegister_suspect .close s ((hslot i).mpr hi) (archived_bound hi)
  have hcount : (registerEntries (slots.foldl (verifyRegister .close) s).store).length
      = slots.length := by
    rw [registerEntries, List.length_map]
    refine congrArg List.length (List.filter_congr fun i _ => ?_)
    exact archived_foldl_verifyRegister .close slots s i
  rw [startWriting_eq, verifyArchived_eq] at hexec
  generalize ((List.finRange 32).filter (archived s.store)).foldl (verifyRegister .close) s = v
    at hexec hframe hports hself hsuspect hcount
  have hlog : v.store.log = s.store.log := by rw [hframe]
  have hdemand : (demandEntries v.store).length = (demandEntries s.store).length := by rw [hframe]; rfl
  have hrecord := length_buildRecord v.store c
  have hsize := length_buildRecord_le v.store c
  have hbytes : buildRecord v.store c = buildRecord
    (writingBegun (buildRecord v.store c)
      (trimmed (buildRecord v.store c).length v.store.log.entries) v).store c := rfl
  generalize buildRecord v.store c = record at hexec hrecord hsize hbytes
  rw [hcount, hdemand] at hrecord
  unfold writingBegun at hexec hbytes
  rw [hlog] at hexec hbytes
  obtain ⟨hdrop, hle, hlimit, hfit⟩ := trimmed_spec record.length s.store.log.entries hsize
  have hfewest := trimmed_fewest record.length s.store.log.entries
  have hentries := roomMade_entries (log := s.store.log) hsize
  generalize trimmed record.length s.store.log.entries = kept at *
  refine ⟨_, ⟨record, s.store.log.entries.length - kept.length⟩, hexec, rfl, rfl, rfl, hrecord, hbytes,
    ?_, Nat.sub_le _ _, ?_, ?_, hfewest, ?_, hself, hsuspect, hports, ?_⟩
  · exact hentries.trans hdrop
  · exact hentries.symm ▸ hlimit
  · exact hentries.symm ▸ hfit
  · exact congrArg (fun es => if s.store.log.entries.length - kept.length = 0 then s.store.log
      else logOf es) hentries.symm
  · rw [hframe]

end Sys2Proof.Machine
end

section
/-! The leases of the snapshot slots at a second tick, and the expiry that is taken ahead of it (R127, R128). -/

namespace Sys2Proof.Machine

/-! ### A notice whatever its mask -/

theorem offer_port_told {p : PortId} {n : Notice} (h : ∀ m, maskEnables m n.kind = true) (s : State)
    (q : PortId) : (offer p n s).ports[q] = told s (if p = q then [n] else []) q := by
  by_cases hq : p = q
  · subst hq
    rw [if_pos rfl, offer_port_self, joinQueue_eq_queued, told, queueing]
    refine if_congr (by rw [Bool.and_eq_true, beq_iff_eq]) ?_ rfl
    rw [List.foldl_cons, List.foldl_nil, if_pos (h _)]
  · rw [if_neg hq, told_nil, offer_port_ne hq]

/-! ### One slot -/

/-- A slot after a second of its lease (R128). -/
def leasedSlot : SnapSlot → SnapSlot
  | .held o remaining entries stamp =>
    if remaining ≤ 1 then .free else .held o (remaining - 1) entries stamp
  | .pending o => .pending o
  | .free => .free

/-- The LEASE notice of a slot whose lease ends (R128). -/
def leaseEnd (i : SnapId) (p : PortId) : SnapSlot → Option Notice
  | .held o remaining _ stamp =>
    if remaining ≤ 1 ∧ o.holder = p then some (leaseNotice i o.lease stamp.counter) else none
  | .pending _ | .free => none

/-- A slot that no request and no capture stands for. -/
def ClearSlot (s : State) (i : SnapId) : Prop :=
  i ∉ s.captureQueue ∧ ∀ w copies stamp, s.engine ≠ .capturing i w copies stamp

theorem freeSlot_of_clear {s : State} {i : SnapId} (h : ClearSlot s i) :
    freeSlot s i = { s with slots := s.slots.set i .free } := by
  obtain ⟨hqueue, heng⟩ := h
  rw [freeSlot_frame, freeSlot_engine s i heng, List.filter_eq_self.mpr]
  exact fun j hj => bne_iff_ne.mpr fun h => hqueue (h ▸ hj)

theorem leaseTick_ended {s : State} {i : SnapId} {o : Opened} {remaining : Nat}
    {entries : List CapturedEntry} {stamp : Stamp} (h : s.slots[i] = .held o remaining entries stamp)
    (hr : remaining ≤ 1) :
    leaseTick s i = offer o.holder (leaseNotice i o.lease stamp.counter) (freeSlot s i) := by
  unfold leaseTick
  rw [h]
  exact if_pos hr

theorem leaseTick_counted {s : State} {i : SnapId} {o : Opened} {remaining : Nat}
    {entries : List CapturedEntry} {stamp : Stamp} (h : s.slots[i] = .held o remaining entries stamp)
    (hr : ¬ remaining ≤ 1) :
    leaseTick s i = { s with slots := s.slots.set i (.held o (remaining - 1) entries stamp) } := by
  unfold leaseTick
  rw [h]
  exact if_neg hr

theorem leaseTick_of_not_held {s : State} {i : SnapId}
    (h : ∀ o remaining entries stamp, s.slots[i] ≠ .held o remaining entries stamp) :
    leaseTick s i = s := by
  unfold leaseTick
  split
  next o remaining entries stamp hs => exact absurd hs (h o remaining entries stamp)
  next => rfl
  next => rfl

/-- What a second tick at one slot changes (R128). -/
structure LeaseTicked (i : SnapId) (s t : State) : Prop where
  slots : t.slots = s.slots.set i (leasedSlot s.slots[i])
  port : ∀ p, t.ports[p] = told s (leaseEnd i p s.slots[i]).toList p
  clear : ClearSlot s i → t.captureQueue = s.captureQueue ∧ t.engine = s.engine
  frame : t = { s with
    slots := t.slots, ports := t.ports, captureQueue := t.captureQueue, engine := t.engine }

theorem leaseTick_ticked (i : SnapId) (s : State) : LeaseTicked i s (leaseTick s i) := by
  rcases hs : s.slots[i] with _ | o | ⟨o, remaining, entries, stamp⟩
  · rw [leaseTick_of_not_held (by rw [hs]; exact fun _ _ _ _ => (nomatch ·))]
    refine ⟨?_, fun p => ?_, fun _ => ⟨rfl, rfl⟩, rfl⟩
    · rw [hs]; exact (hs ▸ set_self s.slots i).symm
    · rw [hs]; exact (told_nil s p).symm
  · rw [leaseTick_of_not_held (by rw [hs]; exact fun _ _ _ _ => (nomatch ·))]
    refine ⟨?_, fun p => ?_, fun _ => ⟨rfl, rfl⟩, rfl⟩
    · rw [hs]; exact (hs ▸ set_self s.slots i).symm
    · rw [hs]; exact (told_nil s p).symm
  · by_cases hr : remaining ≤ 1
    · rw [leaseTick_ended hs hr]
      refine ⟨?_, fun p => ?_, fun hc => ?_, ?_⟩
      · rw [offer_frame, hs, leasedSlot, if_pos hr]; rfl
      · rw [offer_port_told (fun _ => rfl), hs, leaseEnd]
        by_cases hp : o.holder = p
        · rw [if_pos hp, if_pos ⟨hr, hp⟩]; rfl
        · rw [if_neg hp, if_neg fun h => hp h.2]; rfl
      · rw [offer_frame, freeSlot_of_clear hc]; exact ⟨rfl, rfl⟩
      · rw [offer_frame, freeSlot_frame]
    · rw [leaseTick_counted hs hr]
      refine ⟨?_, fun p => ?_, fun _ => ⟨rfl, rfl⟩, rfl⟩
      · rw [hs, leasedSlot, if_neg hr]
      · rw [hs, leaseEnd, if_neg fun h => hr h.1]; exact (told_nil s p).symm

/-! ### Several slots -/

/-- A second tick at those slots of a list that meet a condition, in order. -/
def tickLeases (P : SnapId → Bool) (is : List SnapId) (s : State) : State :=
  is.foldl (fun s i => if P i then leaseTick s i else s) s

/-- The LEASE notice that a slot of those raises. -/
def leaseEndIf (P : SnapId → Bool) (s : State) (p : PortId) (j : SnapId) : Option Notice :=
  if P j then leaseEnd j p s.slots[j] else none

theorem leaseEndIf_held {P : SnapId → Bool} {s : State} {p : PortId} {j : SnapId} {o : Opened}
    {remaining : Nat} {entries : List CapturedEntry} {stamp : Stamp}
    (h : s.slots[j] = .held o remaining entries stamp) : leaseEndIf P s p j
      = if P j = true ∧ remaining ≤ 1 ∧ o.holder = p then
          some (leaseNotice j o.lease stamp.counter) else none := by
  rw [leaseEndIf, h, leaseEnd, ← ite_and]

theorem leaseEndIf_not_held {P : SnapId → Bool} {s : State} {p : PortId} {j : SnapId}
    (h : s.slots[j] = .free ∨ ∃ o, s.slots[j] = .pending o) : leaseEndIf P s p j = none := by
  rw [leaseEndIf]
  rcases h with h | ⟨o, h⟩ <;> rw [h] <;> exact ite_self _

structure LeasesTicked (P : SnapId → Bool) (is : List SnapId) (s t : State) : Prop where
  slot : ∀ j : SnapId,
    t.slots[j] = if j ∈ is ∧ P j = true then leasedSlot s.slots[j] else s.slots[j]
  port : ∀ p, t.ports[p] = told s (is.filterMap (leaseEndIf P s p)) p
  clear : (∀ j, ClearSlot s j) → t.captureQueue = s.captureQueue ∧ t.engine = s.engine
  frame : t = { s with
    slots := t.slots, ports := t.ports, captureQueue := t.captureQueue, engine := t.engine }

/-- One turn of `tickLeases`. -/
theorem tickLeases_one (P : SnapId → Bool) (i : SnapId) (s : State) :
    LeasesTicked P [i] s (if P i then leaseTick s i else s) := by
  by_cases hP : P i = true
  · obtain ⟨hslots, hport, hclear, hframe⟩ := leaseTick_ticked i s
    rw [if_pos hP]
    refine ⟨fun j => ?_, fun p => ?_, fun hc => hclear (hc i), hframe⟩
    · rw [hslots]
      by_cases hj : j = i
      · subst hj
        rw [get_set_self, if_pos ⟨List.mem_singleton_self j, hP⟩]
      · have hout : ¬(j ∈ [i] ∧ P j = true) := fun h => hj (List.mem_singleton.mp h.1)
        rw [get_set_ne _ (Ne.symm hj), if_neg hout]
    · rw [hport, filterMap_cons_eq, List.filterMap_nil, List.append_nil, leaseEndIf, if_pos hP]
  · rw [if_neg hP]
    refine ⟨fun j => ?_, fun p => ?_, fun _ => ⟨rfl, rfl⟩, rfl⟩
    · have hout : ¬(j ∈ [i] ∧ P j = true) := fun h => hP (List.mem_singleton.mp h.1 ▸ h.2)
      rw [if_neg hout]
    · rw [filterMap_cons_eq, List.filterMap_nil, List.append_nil, leaseEndIf, if_neg hP]
      exact (told_nil s p).symm

theorem tickLeases_ticked (P : SnapId → Bool) {is : List SnapId} (hnd : is.Nodup) (s : State) :
    LeasesTicked P is s (tickLeases P is s) := by
  induction is generalizing s with
  | nil => exact ⟨fun j => (if_neg fun h => List.not_mem_nil h.1).symm, fun p => (told_nil s p).symm,
      fun _ => ⟨rfl, rfl⟩, rfl⟩
  | cons i is ih =>
    obtain ⟨hi, hnd⟩ := List.nodup_cons.mp hnd
    obtain ⟨hslot, hport, hclear, hframe⟩ := tickLeases_one P i s
    obtain ⟨ihslot, ihport, ihclear, ihframe⟩ := ih hnd (if P i then leaseTick s i else s)
    have hstep : tickLeases P (i :: is) s = tickLeases P is (if P i then leaseTick s i else s) := rfl
    rw [hstep]
    generalize (if P i then leaseTick s i else s) = u at *
    have hother : ∀ j ∈ is, u.slots[j] = s.slots[j] := fun j hj => by
      have hout : ¬(j ∈ [i] ∧ P j = true) := fun h => hi (List.mem_singleton.mp h.1 ▸ hj)
      rw [hslot, if_neg hout]
    refine ⟨fun j => ?_, fun p => ?_, fun hc => ?_, ?_⟩
    · rw [ihslot]
      by_cases hj : j ∈ is
      · rw [hother j hj]
        simp only [hj, List.mem_cons, or_true]
      · have hout : ¬(j ∈ is ∧ P j = true) := fun h => hj h.1
        rw [if_neg hout, hslot]
        simp only [List.mem_cons, hj, or_false, List.not_mem_nil]
    · rw [ihport]
      have hrest : is.filterMap (leaseEndIf P u p) = is.filterMap (leaseEndIf P s p) :=
        List.filterMap_congr fun j hj => by rw [leaseEndIf, leaseEndIf, hother j hj]
      have hfirst : [i].filterMap (leaseEndIf P s p) ++ is.filterMap (leaseEndIf P s p)
          = (i :: is).filterMap (leaseEndIf P s p) := (List.filterMap_append (l := [i])).symm
      rw [hrest, told_append (hport p) (by rw [hframe]) (by rw [hframe]), hfirst]
    · obtain ⟨hq, he⟩ := hclear hc
      have hc' : ∀ j, ClearSlot u j := fun j => by
        unfold ClearSlot
        rw [hq, he]
        exact hc j
      obtain ⟨hq', he'⟩ := ihclear hc'
      exact ⟨hq'.trans hq, he'.trans he⟩
    · rw [ihframe]
      generalize tickLeases P is u = v
      rw [hframe]

/-! ### The tick and the expiry taken ahead of it -/

/-- Whether a slot has not taken the tick to come. -/
def leaseUntaken (s : State) (i : SnapId) : Bool := !takenEarly (.lease i) s

theorem leaseUntaken_iff (s : State) (i : SnapId) :
    leaseUntaken s i = true ↔ TickPart.lease i ∉ s.prescaler.early := by
  rw [leaseUntaken, Bool.not_eq_true', takenEarly_false_iff]

theorem offer_withPrescaler (c : Prescaler) (p : PortId) (n : Notice) (s : State) :
    offer p n { s with prescaler := c } = { offer p n s with prescaler := c } := by
  by_cases h : queueing s = true
  · rw [offer, offer, if_pos h, if_pos (show queueing { s with prescaler := c } = true from h)]
    rfl
  · rw [offer, offer, if_neg h, if_neg (show ¬ queueing { s with prescaler := c } = true from h)]

theorem takeEarly_offer (x : TickPart) (p : PortId) (n : Notice) (s : State) :
    takeEarly x (offer p n s) = offer p n (takeEarly x s) := by
  have hp : (offer p n s).prescaler = s.prescaler := by rw [offer_frame]
  rw [takeEarly, hp]
  exact (offer_withPrescaler _ p n s).symm

theorem leaseTick_withPrescaler (c : Prescaler) (s : State) (i : SnapId) :
    leaseTick { s with prescaler := c } i = { leaseTick s i with prescaler := c } := by
  by_cases h : ∃ o remaining entries stamp, s.slots[i] = .held o remaining entries stamp
  · obtain ⟨o, remaining, entries, stamp, hs⟩ := h
    by_cases hr : remaining ≤ 1
    · rw [leaseTick_ended hs hr, leaseTick_ended (s := { s with prescaler := c }) hs hr]
      exact offer_withPrescaler c _ _ (freeSlot s i)
    · rw [leaseTick_counted hs hr, leaseTick_counted (s := { s with prescaler := c }) hs hr]
  · have hno : ∀ o remaining entries stamp, s.slots[i] ≠ .held o remaining entries stamp :=
      fun o remaining entries stamp hs => h ⟨o, remaining, entries, stamp, hs⟩
    rw [leaseTick_of_not_held hno, leaseTick_of_not_held (s := { s with prescaler := c }) hno]

theorem tickLeases_withPrescaler (P : SnapId → Bool) (is : List SnapId) (c : Prescaler) (s : State) :
    tickLeases P is { s with prescaler := c } = { tickLeases P is s with prescaler := c } := by
  induction is generalizing s with
  | nil => rfl
  | cons i is ih =>
    unfold tickLeases at ih ⊢
    rw [List.foldl_cons, List.foldl_cons, ← ih]
    refine congrArg (List.foldl _ · is) ?_
    by_cases h : P i = true
    · rw [if_pos h, if_pos h, leaseTick_withPrescaler]
    · rw [if_neg h, if_neg h]

/-- A second tick at the slots is one at those that have not taken it (R128). -/
theorem foldl_tickLease (is : List SnapId) (s : State) :
    is.foldl tickLease s = tickLeases (leaseUntaken s) is s := by
  suffices h : ∀ (P : SnapId → Bool) (u : State), leaseUntaken u = P →
      is.foldl tickLease u = tickLeases P is u from h _ s rfl
  intro P
  induction is with
  | nil => exact fun u _ => rfl
  | cons i is ih =>
    intro u hu
    have hone : tickLease u i = if P i then leaseTick u i else u := by
      rw [← hu, tickLease, leaseUntaken]
      cases takenEarly (.lease i) u <;> rfl
    obtain ⟨_, _, _, hframe⟩ := tickLeases_one P i u
    rw [List.foldl_cons, hone]
    refine ih _ ?_
    rw [hframe]
    exact hu

/-- The same, each slot marked as having taken it (log 4). -/
theorem foldl_leaseAhead {is : List SnapId} (hnd : is.Nodup) (s : State) :
    ∃ early : List TickPart, is.foldl leaseAhead s
      = { tickLeases (leaseUntaken s) is s with prescaler := { s.prescaler with early := early } }
    ∧ ∀ x, x ∈ early ↔ x ∈ s.prescaler.early ∨ ∃ j ∈ is, x = .lease j := by
  suffices h : ∀ (P : SnapId → Bool) (u : State), (∀ j ∈ is, leaseUntaken u j = P j) →
      ∃ early : List TickPart, is.foldl leaseAhead u
        = { tickLeases P is u with prescaler := { u.prescaler with early := early } }
      ∧ ∀ x, x ∈ early ↔ x ∈ u.prescaler.early ∨ ∃ j ∈ is, x = .lease j from h _ s fun _ _ => rfl
  intro P
  induction is with
  | nil => exact fun u _ => ⟨u.prescaler.early, rfl, fun x => by simp⟩
  | cons i is ih =>
    intro u hu
    obtain ⟨hi, hnd⟩ := List.nodup_cons.mp hnd
    let early : List TickPart :=
      if P i then .lease i :: u.prescaler.early else u.prescaler.early
    have hearly : ∀ x, x ∈ early ↔ x ∈ u.prescaler.early ∨ x = .lease i := fun x => by
      by_cases hP : P i = true
      · rw [show early = _ from if_pos hP, List.mem_cons, or_comm]
      · rw [show early = _ from if_neg hP]
        refine ⟨.inl, fun h => h.elim id fun h => ?_⟩
        rw [← hu i List.mem_cons_self, leaseUntaken_iff, not_not] at hP
        exact h ▸ hP
    have hone : leaseAhead u i = { (if P i then leaseTick u i else u) with
        prescaler := { u.prescaler with early := early } } := by
      by_cases hP : P i = true
      · have hout := (leaseUntaken_iff u i).mp ((hu i List.mem_cons_self).trans hP)
        rw [leaseAhead_of_not_mem hout, if_pos hP, show early = _ from if_pos hP, takeEarly,
          (leaseTick_ticked i u).frame]
      · have hin : TickPart.lease i ∈ u.prescaler.early := by
          rwa [← hu i List.mem_cons_self, leaseUntaken_iff, not_not] at hP
        rw [leaseAhead_of_mem hin, if_neg hP, show early = _ from if_neg hP]
    obtain ⟨early', heq, hmem⟩ := ih hnd (leaseAhead u i) fun j hj => by
      rw [← hu j (List.mem_cons_of_mem i hj), hone, Bool.eq_iff_iff, leaseUntaken_iff,
        leaseUntaken_iff]
      show TickPart.lease j ∉ early ↔ _
      rw [hearly, not_or]
      refine and_iff_left fun h => hi ?_
      cases h
      exact hj
    refine ⟨early', ?_, fun x => ?_⟩
    · rw [List.foldl_cons, heq, hone, tickLeases_withPrescaler]
      rfl
    · rw [hmem, hone]
      show x ∈ early ∨ _ ↔ _
      rw [hearly, or_assoc]
      simp only [List.mem_cons, exists_eq_or_imp]

theorem foldl_leaseAhead_taken {is : List SnapId} {s : State}
    (h : ∀ j ∈ is, TickPart.lease j ∈ s.prescaler.early) : is.foldl leaseAhead s = s := by
  induction is with
  | nil => rfl
  | cons i is ih =>
    rw [List.foldl_cons, leaseAhead_of_mem (h i List.mem_cons_self)]
    exact ih fun j hj => h j (List.mem_cons_of_mem i hj)

theorem slotsUpTo_eq (i : SnapId) :
    slotsUpTo i = ([0, 1, 2, 3] : List SnapId).filter (· < i) ++ [i] := by
  revert i; decide

/-- Settles O41, from the slots up to the one that expires, each ticked once. -/
theorem leaseExpiryFreesTheSlot : Obligations.LeaseExpiryFreesTheSlot := by
  intro i o entries stamp s hf he hs untaken clear
  have hexec : exec (.leaseExpiry i) s = .next ((slotsUpTo i).foldl leaseAhead s) := by
    refine congrArg Host.Outcome.next (if_pos ⟨hf, (takenEarly_false_iff _ s).mpr he, ?_⟩)
    rw [hs]
    rfl
  refine ⟨fun hbelow hclear => ?_, ?_⟩
  · have hfirst : (([0, 1, 2, 3] : List SnapId).filter (· < i)).foldl leaseAhead s = s :=
      foldl_leaseAhead_taken fun j hj => by
        obtain ⟨_, hj⟩ := List.mem_filter.mp hj
        exact not_not.mp (hbelow j (of_decide_eq_true hj))
    rw [hexec, slotsUpTo_eq, List.foldl_append, hfirst, List.foldl_cons, List.foldl_nil,
      leaseAhead_of_not_mem he, leaseTick_ended hs (Nat.le_refl 1), freeSlot_of_clear hclear]
    exact congrArg Host.Outcome.next (takeEarly_offer ..)
  · obtain ⟨early, heq, hearly⟩ := foldl_leaseAhead (nodup_slotsUpTo i) s
    obtain ⟨hslot, hport, hkeep, hframe⟩ :=
      tickLeases_ticked (leaseUntaken s) (nodup_slotsUpTo i) s
    refine ⟨_, hexec, ?_⟩
    rw [heq]
    generalize tickLeases (leaseUntaken s) (slotsUpTo i) s = t at hslot hport hkeep hframe
    simp only [mem_slotsUpTo] at hslot hearly
    refine ⟨fun j => ⟨fun hj hu => ?_, fun hj => ?_⟩, fun p => ?_, hearly, hkeep, ?_⟩
    · refine (hslot j).trans ((if_pos ⟨hj, (leaseUntaken_iff s j).mpr hu⟩).trans ?_)
      cases s.slots[j] <;> rfl
    · refine (hslot j).trans (if_neg fun h => ?_)
      exact hj.elim (fun hlt => absurd h.1 (not_le.mpr hlt))
        (fun htaken => htaken ((leaseUntaken_iff s j).mp h.2))
    · refine (hport p).trans (congrArg (told s · p) ?_)
      rw [slotsUpTo, List.filterMap_filter]
      refine List.filterMap_congr fun j _ => ?_
      rcases hj : s.slots[j] with _ | o | ⟨o, remaining, entries, stamp⟩
      · rw [leaseEndIf_not_held (.inl hj)]
        exact ite_self _
      · rw [leaseEndIf_not_held (.inr ⟨o, hj⟩)]
        exact ite_self _
      · rw [leaseEndIf_held hj, ← ite_and]
        refine if_congr (and_congr decide_eq_true_iff ?_) rfl rfl
        rw [leaseUntaken, Bool.not_eq_true', takenEarly, and_rotate]
    · rw [hframe]

end Sys2Proof.Machine
end

section
/-! The second tick and the minute tick: each taker acts once, and on what is its own (R57, R69, R90, R128,
R133, R138, R189). -/

namespace Sys2Proof.Machine

/-! ### What one taker changes -/

/-- What a taker of a second or a minute tick leaves as it was: it changes no register, no queue entry and no
log record, and each of the things that another taker owns. -/
structure TakerFrame (x : TickTaker) (s t : State) : Prop where
  store : t.store = { s.store with
    activeTariff := t.store.activeTariff, channels := t.store.channels
    intervalIndex := t.store.intervalIndex, chains := t.store.chains
    overdueHeld := t.store.overdueHeld, periodDuration := t.store.periodDuration }
  fixed : t.prescaler = s.prescaler ∧ t.supply = s.supply ∧ t.queue = s.queue
  close : s.store.mode = .run ∨ t.closeState = s.closeState
  slots : x ≠ .leases → t.slots = s.slots
  inputs : x ≠ .marks → t.inputs = s.inputs
  retain : x ≠ .retainCount → t.retainDuration = s.retainDuration
  duration : x ≠ .duration → t.store.periodDuration = s.store.periodDuration

theorem takerFrame_refl (x : TickTaker) (s : State) : TakerFrame x s s :=
  ⟨rfl, ⟨rfl, rfl, rfl⟩, .inr rfl, fun _ => rfl, fun _ => rfl, fun _ => rfl, fun _ => rfl⟩

theorem expiryDelivered_frame (x : TickTaker) (f : ChainFn) (s : State) :
    TakerFrame x s (expiryDelivered f s) := by
  cases f with
  | demand =>
    show TakerFrame x s (if s.supply = .runSupply then fullEnd s else s)
    by_cases h : s.supply = .runSupply
    · obtain ⟨chs, acc, heq, _⟩ := fullEnd_eq s
      rw [if_pos h, heq]
      exact ⟨rfl, ⟨rfl, rfl, rfl⟩, .inr rfl, fun _ => rfl, fun _ => rfl, fun _ => rfl, fun _ => rfl⟩
    · rw [if_neg h]
      exact takerFrame_refl x s
  | overdue =>
    show TakerFrame x s (overdueExpired s)
    unfold overdueExpired
    split_ifs with _ _ hrun
    · exact takerFrame_refl x s
    · exact ⟨rfl, ⟨rfl, rfl, rfl⟩, .inr rfl, fun _ => rfl, fun _ => rfl, fun _ => rfl, fun _ => rfl⟩
    · exact ⟨rfl, ⟨rfl, rfl, rfl⟩, .inl hrun, fun _ => rfl, fun _ => rfl, fun _ => rfl, fun _ => rfl⟩
    · exact takerFrame_refl x s
  | inhibit =>
    show TakerFrame x s (inhibitEnded s)
    unfold inhibitEnded
    split_ifs with hrun _ _
    · exact ⟨rfl, ⟨rfl, rfl, rfl⟩, .inl hrun.2.2, fun _ => rfl, fun _ => rfl, fun _ => rfl, fun _ => rfl⟩
    · exact ⟨rfl, ⟨rfl, rfl, rfl⟩, .inl hrun.2.2, fun _ => rfl, fun _ => rfl, fun _ => rfl, fun _ => rfl⟩
    · exact takerFrame_refl x s
    · exact takerFrame_refl x s

theorem tickChain_frame (x : TickTaker) (t : ChainTick) (f : ChainFn) (s : State) :
    TakerFrame x s (tickChain t f s) := by
  unfold tickChain chainTick
  dsimp only
  split_ifs
  · obtain ⟨hstore, hfixed, hclose, hslots, hinputs, hretain, hduration⟩ :=
      expiryDelivered_frame x f (onChain f (chainCounted f) s)
    refine ⟨?_, hfixed, hclose, hslots, hinputs, hretain, hduration⟩
    rw [hstore]
    rfl
  · exact ⟨rfl, ⟨rfl, rfl, rfl⟩, .inr rfl, fun _ => rfl, fun _ => rfl, fun _ => rfl, fun _ => rfl⟩
  · exact takerFrame_refl x s

theorem sampleLines_frame (x : TickTaker) (hi lo : Bool) (s : State) :
    TakerFrame x s (sampleLines hi lo s) := by
  unfold sampleLines
  dsimp only
  split_ifs
  · unfold tariffChange
    dsimp only
    rw [raise_frame]
    exact ⟨rfl, ⟨rfl, rfl, rfl⟩, .inr rfl, fun _ => rfl, fun _ => rfl, fun _ => rfl, fun _ => rfl⟩
  · exact ⟨rfl, ⟨rfl, rfl, rfl⟩, .inr rfl, fun _ => rfl, fun _ => rfl, fun _ => rfl, fun _ => rfl⟩
  · exact takerFrame_refl x s

theorem secondAt_frame (hi lo : Bool) (s : State) (x : TickTaker) :
    TakerFrame x s (secondAt hi lo s x) := by
  cases x with
  | marks =>
    show TakerFrame .marks s (setMarks s)
    unfold setMarks
    split_ifs
    · exact ⟨rfl, ⟨rfl, rfl, rfl⟩, .inr rfl, fun _ => rfl, fun h => absurd rfl h, fun _ => rfl,
        fun _ => rfl⟩
    · exact takerFrame_refl _ s
  | lines => exact sampleLines_frame _ hi lo s
  | leases =>
    show TakerFrame .leases s ([0, 1, 2, 3].foldl tickLease s)
    rw [foldl_tickLease, (tickLeases_ticked _ (by decide) s).frame]
    exact ⟨rfl, ⟨rfl, rfl, rfl⟩, .inr rfl, fun h => absurd rfl h, fun _ => rfl, fun _ => rfl,
      fun _ => rfl⟩
  | retainCount =>
    show TakerFrame .retainCount s (retainSecond s)
    unfold retainSecond
    split_ifs
    · exact ⟨rfl, ⟨rfl, rfl, rfl⟩, .inr rfl, fun _ => rfl, fun _ => rfl, fun h => absurd rfl h,
        fun _ => rfl⟩
    · exact takerFrame_refl _ s
  | duration => exact takerFrame_refl _ s
  | chain f => exact tickChain_frame _ .second f s

theorem minuteAt_frame (s : State) (x : TickTaker) : TakerFrame x s (minuteAt s x) := by
  cases x with
  | duration => exact ⟨rfl, ⟨rfl, rfl, rfl⟩, .inr rfl, fun _ => rfl, fun _ => rfl, fun _ => rfl,
      fun h => absurd rfl h⟩
  | chain f => exact tickChain_frame _ .minute f s
  | marks | lines | leases | retainCount => exact takerFrame_refl _ s

theorem TakerFrame.converterRuns {x : TickTaker} {s t : State} (h : TakerFrame x s t) :
    converterRuns t = converterRuns s := by
  obtain ⟨hstore, ⟨_, hsupply, _⟩, hclose, _⟩ := h
  have hmode : t.store.mode = s.store.mode := by rw [hstore]
  unfold Machine.converterRuns
  rw [hmode, hsupply]
  rcases hclose with hrun | hclose
  · rw [hrun]
    rfl
  · rw [hclose]

/-! ### Takers in a row -/

/-- A relation that every step keeps, over a run of steps. -/
theorem foldl_related {Q : State → State → Prop} (hrefl : ∀ s, Q s s)
    (htrans : ∀ s t u, Q s t → Q t u → Q s u) {act : State → TickTaker → State}
    {order : List TickTaker} (h : ∀ y ∈ order, ∀ s, Q s (act s y)) (s : State) :
    Q s (order.foldl act s) := by
  induction order generalizing s with
  | nil => exact hrefl s
  | cons y order ih =>
    exact htrans _ _ _ (h y List.mem_cons_self s)
      (ih (fun z hz => h z (List.mem_cons_of_mem y hz)) (act s y))

/-- A taker that an order names once acts between two runs of others. -/
theorem foldl_around {Q : State → State → Prop} (hrefl : ∀ s, Q s s)
    (htrans : ∀ s t u, Q s t → Q t u → Q s u) {act : State → TickTaker → State} {x : TickTaker}
    (h : ∀ y, y ≠ x → ∀ s, Q s (act s y)) {order : List TickTaker} (hnd : order.Nodup)
    (hx : x ∈ order) (s : State) : ∃ u, Q s u ∧ Q (act u x) (order.foldl act s) := by
  obtain ⟨before, after, rfl⟩ := List.append_of_mem hx
  obtain ⟨_, hafter, hdisj⟩ := List.nodup_append.mp hnd
  obtain ⟨hxafter, _⟩ := List.nodup_cons.mp hafter
  refine ⟨before.foldl act s, foldl_related hrefl htrans (fun y hy => h y ?_) s, ?_⟩
  · exact hdisj y hy x List.mem_cons_self
  · rw [List.foldl_append, List.foldl_cons]
    exact foldl_related hrefl htrans (fun y hy => h y fun hyx => hxafter (hyx ▸ hy)) _

/-! ### The second tick -/

theorem slots_secondTick (hi lo : Bool) {order : List TickTaker} (hnd : order.Nodup)
    (hx : TickTaker.leases ∈ order) (s : State) (i : SnapId) :
    (order.foldl (secondAt hi lo) s).slots[i]
      = if leaseUntaken s i = true then leasedSlot s.slots[i] else s.slots[i] := by
  obtain ⟨u, ⟨huslots, huphase⟩, htslots, _⟩ := foldl_around
    (Q := fun s t => t.slots = s.slots ∧ t.prescaler = s.prescaler) (fun _ => ⟨rfl, rfl⟩)
    (fun _ _ _ h h' => ⟨h'.1.trans h.1, h'.2.trans h.2⟩)
    (fun y hy s => ⟨(secondAt_frame hi lo s y).slots hy, (secondAt_frame hi lo s y).fixed.1⟩)
    hnd hx s
  have hat : secondAt hi lo u .leases = tickLeases (leaseUntaken u) [0, 1, 2, 3] u := foldl_tickLease ..
  have hall : i ∈ ([0, 1, 2, 3] : List SnapId) := by revert i; decide
  have hsame : leaseUntaken u i = leaseUntaken s i := by
    unfold leaseUntaken takenEarly
    rw [huphase]
  rw [htslots, hat, (tickLeases_ticked _ (by decide) u).slot, huslots, hsame]
  simp only [hall, true_and]

theorem setMarks_input (s : State) (n : InputId) : (setMarks s).inputs[n] = { s.inputs[n] with
    eligible := s.inputs[n].eligible || (converterRuns s
      && decide (s.store.pulseDefs[n].enabled ∧ s.store.pulseCounts[n].pending ≠ 0)) } := by
  unfold setMarks
  by_cases hr : converterRuns s = true
  · rw [if_pos hr, hr, Bool.true_and]
    refine (Vector.getElem_ofFn ..).trans ?_
    by_cases hm : s.store.pulseDefs[n].enabled ∧ s.store.pulseCounts[n].pending ≠ 0
    · exact (if_pos hm).trans (by rw [decide_eq_true hm, Bool.or_true])
    · exact (if_neg hm).trans (by rw [decide_eq_false hm, Bool.or_false])
  · rw [if_neg hr, Bool.eq_false_of_not_eq_true hr, Bool.false_and, Bool.or_false]

theorem inputs_secondTick (hi lo : Bool) {order : List TickTaker} (hnd : order.Nodup)
    (hx : TickTaker.marks ∈ order) (s : State) (n : InputId) :
    (order.foldl (secondAt hi lo) s).inputs[n] = { s.inputs[n] with
      eligible := s.inputs[n].eligible || (converterRuns s
        && decide (s.store.pulseDefs[n].enabled ∧ s.store.pulseCounts[n].pending ≠ 0)) } := by
  obtain ⟨u, ⟨huinputs, hudefs, hucounts, huruns⟩, htinputs, _⟩ := foldl_around
    (Q := fun s t => t.inputs = s.inputs ∧ t.store.pulseDefs = s.store.pulseDefs
      ∧ t.store.pulseCounts = s.store.pulseCounts ∧ converterRuns t = converterRuns s)
    (fun _ => ⟨rfl, rfl, rfl, rfl⟩)
    (fun _ _ _ ⟨h1, h2, h3, h4⟩ ⟨h1', h2', h3', h4'⟩ =>
      ⟨h1'.trans h1, h2'.trans h2, h3'.trans h3, h4'.trans h4⟩)
    (fun y hy s => by
      have hf := secondAt_frame hi lo s y
      exact ⟨hf.inputs hy, by rw [hf.store], by rw [hf.store], hf.converterRuns⟩)
    hnd hx s
  rw [htinputs]
  refine (setMarks_input u n).trans ?_
  rw [huinputs, hudefs, hucounts, huruns]

theorem retain_secondTick (hi lo : Bool) {order : List TickTaker} (hnd : order.Nodup)
    (hx : TickTaker.retainCount ∈ order) (s : State) :
    (order.foldl (secondAt hi lo) s).retainDuration
      = if s.supply = .retain then min (s.retainDuration + 1) 4294967295 else s.retainDuration := by
  obtain ⟨u, ⟨huretain, husupply⟩, htretain, _⟩ := foldl_around
    (Q := fun s t => t.retainDuration = s.retainDuration ∧ t.supply = s.supply) (fun _ => ⟨rfl, rfl⟩)
    (fun _ _ _ h h' => ⟨h'.1.trans h.1, h'.2.trans h.2⟩)
    (fun y hy s => ⟨(secondAt_frame hi lo s y).retain hy, (secondAt_frame hi lo s y).fixed.2.1⟩)
    hnd hx s
  have hat : (secondAt hi lo u .retainCount).retainDuration
      = if u.supply = .retain then min (u.retainDuration + 1) 4294967295 else u.retainDuration := by
    show (retainSecond u).retainDuration = _
    unfold retainSecond
    split_ifs <;> rfl
  rw [htretain, hat, huretain, husupply]

/-- What no taker of a tick touches. -/
def TickKeeps (s t : State) : Prop :=
  t.store.registers = s.store.registers ∧ t.queue = s.queue ∧ t.store.log = s.store.log
    ∧ t.store.applicationCounter = s.store.applicationCounter

theorem TakerFrame.keeps {x : TickTaker} {s t : State} (h : TakerFrame x s t) : TickKeeps s t :=
  ⟨by rw [h.store], h.fixed.2.2, by rw [h.store], by rw [h.store]⟩

theorem foldl_keeps {act : State → TickTaker → State} (h : ∀ s y, TakerFrame y s (act s y))
    (order : List TickTaker) (s : State) : TickKeeps s (order.foldl act s) :=
  foldl_related (Q := TickKeeps) (fun _ => ⟨rfl, rfl, rfl, rfl⟩)
    (fun _ _ _ ⟨h1, h2, h3, h4⟩ ⟨h1', h2', h3', h4'⟩ =>
      ⟨h1'.trans h1, h2'.trans h2, h3'.trans h3, h4'.trans h4⟩)
    (fun y _ s => (h s y).keeps) s

/-- A run that names a taker nowhere leaves what that taker owns. -/
theorem foldl_leaves {β : Type} {view : State → β} {act : State → TickTaker → State}
    {order : List TickTaker} (h : ∀ y ∈ order, ∀ s, view (act s y) = view s) (s : State) :
    view (order.foldl act s) = view s :=
  foldl_related (Q := fun s t => view t = view s) (fun _ => rfl) (fun _ _ _ h h' => h'.trans h) h s

/-! ### One chain -/

theorem tickChain_idle {u : ChainTick} {f : ChainFn} {s : State}
    (h : (chainOf s.store.chains f).state ≠ .running ∨ (chainOf s.store.chains f).tick ≠ u
      ∨ ¬ TickPart.chain u f ∉ s.prescaler.early) : tickChain u f s = s := by
  refine if_neg fun ⟨hc, ht⟩ => ?_
  rw [counts, Bool.and_eq_true, beq_iff_eq, beq_iff_eq] at hc
  rcases h with h | h | h
  · exact h hc.1
  · exact h hc.2
  · exact h ((takenEarly_false_iff _ s).mp ht)

theorem tickChain_of_own {u : ChainTick} {f : ChainFn} {s : State}
    (hr : (chainOf s.store.chains f).state = .running) (ht : (chainOf s.store.chains f).tick = u)
    (he : TickPart.chain u f ∉ s.prescaler.early) : tickChain u f s = chainTick f s :=
  if_pos ⟨by rw [counts, hr, ht, beq_self_eq_true, beq_self_eq_true]; rfl,
    (takenEarly_false_iff _ s).mpr he⟩

theorem chainTick_of_more {f : ChainFn} {s : State} (h : 2 ≤ (chainOf s.store.chains f).count) :
    chainTick f s
      = onChain f (fun c => { c with count := (chainOf s.store.chains f).count - 1 }) s := by
  have hdown : countedDown (chainOf s.store.chains f).length (chainOf s.store.chains f).count
      = (chainOf s.store.chains f).count - 1 := if_neg (by omega)
  have hne : (chainOf s.store.chains f).count - 1 ≠ 0 := by omega
  unfold chainTick
  dsimp only
  rw [hdown, if_neg hne]
  refine onChain_congr ?_
  unfold chainCounted
  rw [hdown, if_neg hne]

theorem converterRuns_iff (s : State) : converterRuns s = true ↔ s.supply = .runSupply
    ∧ (s.store.mode = .run ∨ (s.store.mode = .enteringSetup ∧ s.closeState = .idle)) := by
  unfold converterRuns
  rw [Bool.and_eq_true, Bool.or_eq_true, Bool.and_eq_true, beq_iff_eq, beq_iff_eq, beq_iff_eq,
    beq_iff_eq, and_comm]

theorem marked_eq (s : State) (n : InputId) : (converterRuns s
      && decide (s.store.pulseDefs[n].enabled = true ∧ s.store.pulseCounts[n].pending ≠ 0))
    = decide (s.supply = .runSupply
      ∧ (s.store.mode = .run ∨ (s.store.mode = .enteringSetup ∧ s.closeState = .idle))
      ∧ s.store.pulseDefs[n].enabled = true ∧ s.store.pulseCounts[n].pending ≠ 0) := by
  rw [Bool.eq_iff_iff, Bool.and_eq_true, converterRuns_iff, decide_eq_true_iff, decide_eq_true_iff,
    and_assoc]

/-- A chain's expiry at its tick is the event row's, but for the phase (log 4). -/
theorem tickChain_expires {u : ChainTick} {f : ChainFn} {s : State}
    (hr : (chainOf s.store.chains f).state = .running) (ht : (chainOf s.store.chains f).tick = u)
    (he : TickPart.chain u f ∉ s.prescaler.early) (h1 : (chainOf s.store.chains f).count = 1)
    (hf : chainTickFalls u s = true) :
    tickChain u f s = { chainEvent f s with prescaler := s.prescaler } := by
  subst ht
  have hphase : (chainTick f s).prescaler = s.prescaler := by
    rw [← tickChain_of_own hr rfl he]
    exact (tickChain_frame .duration _ f s).fixed.1
  rw [tickChain_of_own hr rfl he, chainEvent_of_due hf he hr h1, ← chainTick_of_one h1, ← hphase]
  rfl

theorem exec_secondTick {s : State} (h : secondFalls s = true) (hi lo : Bool)
    (first : List TickTaker) : exec (.secondTick hi lo first) s
      = .next { (takerOrder first secondTakers).foldl (secondAt hi lo) s with
          prescaler := secondCounted s.prescaler } := congrArg Host.Outcome.next (if_pos h)

theorem exec_minuteTick {s : State} (h : minuteFalls s = true) (first : List TickTaker) :
    exec (.minuteTick first) s = .next { (takerOrder first minuteTakers).foldl minuteAt s with
      prescaler := minuteCounted s.prescaler } := congrArg Host.Outcome.next (if_pos h)

theorem secondTakers_nodup : secondTakers.Nodup := by decide

theorem minuteTakers_nodup : minuteTakers.Nodup := by decide

theorem ne_of_mem_secondTakers {first : List TickTaker} {y : TickTaker}
    (h : y ∈ takerOrder first secondTakers) : y ≠ .duration := by
  rintro rfl
  exact absurd ((mem_takerOrder ..).mp h) (by decide)

theorem ne_of_mem_minuteTakers {first : List TickTaker} {y : TickTaker}
    (h : y ∈ takerOrder first minuteTakers) : y ≠ .leases ∧ y ≠ .marks ∧ y ≠ .retainCount := by
  rw [mem_takerOrder] at h
  cases y with
  | duration | chain => exact ⟨(nomatch ·), (nomatch ·), (nomatch ·)⟩
  | marks | lines | leases | retainCount => exact absurd h (by decide)

theorem duration_minuteTick (first : List TickTaker) (s : State) :
    ((takerOrder first minuteTakers).foldl minuteAt s).store.periodDuration
      = min (s.store.periodDuration + 1) 65535 := by
  obtain ⟨u, hu, ht⟩ := foldl_around (x := .duration) (act := minuteAt)
    (Q := fun s t => t.store.periodDuration = s.store.periodDuration) (fun _ => rfl)
    (fun _ _ _ h h' => h'.trans h) (fun y hy s => (minuteAt_frame s y).duration hy)
    (nodup_takerOrder first minuteTakers_nodup) ((mem_takerOrder ..).mpr (by decide)) s
  rw [ht, ← hu]
  rfl

/-- Settles O29, each taker acts once, and the others leave what it owns. -/
theorem secondAndMinuteTicksCount : Obligations.SecondAndMinuteTicksCount := by
  intro s untaken
  refine ⟨fun hf hi lo first => ?_, fun hf first => ?_, fun hf hi lo first => ?_, fun hf first => ?_,
    fun hi lo p => ?_, fun hi lo u f => ?_⟩
  · exact congrArg Host.Outcome.next (if_neg (ne_true_of_eq_false hf))
  · exact congrArg Host.Outcome.next (if_neg (ne_true_of_eq_false hf))
  · have hnd := nodup_takerOrder first secondTakers_nodup
    have hmem : ∀ x ∈ secondTakers, x ∈ takerOrder first secondTakers := fun x hx =>
      (mem_takerOrder ..).mpr hx
    have hslots := slots_secondTick hi lo hnd (hmem .leases (by decide)) s
    have hinputs := inputs_secondTick hi lo hnd (hmem .marks (by decide)) s
    have hretain := retain_secondTick hi lo hnd (hmem .retainCount (by decide)) s
    obtain ⟨hregs, hqueue, hlog, hcounter⟩ :=
      foldl_keeps (secondAt_frame hi lo) (takerOrder first secondTakers) s
    have hduration := foldl_leaves (view := fun s => s.store.periodDuration)
      (act := secondAt hi lo) (order := takerOrder first secondTakers)
      (fun y hy s => (secondAt_frame hi lo s y).duration (ne_of_mem_secondTakers hy)) s
    refine ⟨_, exec_secondTick hf hi lo first, rfl, rfl,
      fun x hx => count_takerOrder first secondTakers_nodup hx, fun i => ⟨fun hu => ?_, fun hu => ?_⟩,
      fun n => ?_, hretain, hregs, hqueue, hlog, hduration, hcounter⟩
    · refine (hslots i).trans ((if_pos ((leaseUntaken_iff s i).mpr hu)).trans ?_)
      cases s.slots[i] <;> rfl
    · exact (hslots i).trans (if_neg fun h => hu ((leaseUntaken_iff s i).mp h))
    · refine (hinputs n).trans ?_
      rw [marked_eq]
  · obtain ⟨hregs, hqueue, hlog, hcounter⟩ :=
      foldl_keeps minuteAt_frame (takerOrder first minuteTakers) s
    have hleave := foldl_leaves (view := fun s => (s.slots, s.inputs, s.retainDuration))
      (act := minuteAt) (order := takerOrder first minuteTakers) (fun y hy s => by
        obtain ⟨h1, h2, h3⟩ := ne_of_mem_minuteTakers hy
        have hf := minuteAt_frame s y
        exact Prod.ext (hf.slots h1) (Prod.ext (hf.inputs h2) (hf.retain h3))) s
    obtain ⟨hslots, hrest⟩ := Prod.mk.inj hleave
    obtain ⟨hinputs, hretain⟩ := Prod.mk.inj hrest
    exact ⟨_, exec_minuteTick hf first, rfl, rfl,
      fun x hx => count_takerOrder first minuteTakers_nodup hx, duration_minuteTick first s,
      hregs, hqueue, hlog, hslots, hinputs, hretain, hcounter⟩
  · show ([0, 1, 2, 3].foldl tickLease s).ports[p] = _
    rw [foldl_tickLease, (tickLeases_ticked _ (by decide) s).port]
    refine congrArg (told s · p) (List.filterMap_congr fun i _ => ?_)
    rcases hi : s.slots[i] with _ | o | ⟨o, remaining, entries, stamp⟩
    · exact leaseEndIf_not_held (.inl hi)
    · exact leaseEndIf_not_held (.inr ⟨o, hi⟩)
    · rw [leaseEndIf_held hi, leaseUntaken, takenEarly]
      refine if_congr ?_ rfl rfl
      rw [Bool.not_eq_true', and_rotate]
  · intro c after
    have hafter : after = tickChain u f s := by cases u <;> rfl
    rw [hafter]
    refine ⟨tickChain_idle, fun hr ht he h2 => ?_, fun hr ht he h1 hf => ?_⟩
    · rw [tickChain_of_own hr ht he, chainTick_of_more h2]
      rfl
    · refine ⟨chainEvent f s, ?_, tickChain_expires hr ht he h1 hf⟩
      cases f <;> rfl

end Sys2Proof.Machine
end

section
/-! A capture begun and completed, and the command that waited for its end (R33, R34, R38, R40, R121 to R123). -/

namespace Sys2Proof.Machine

/-! ### The commands in execution -/

/-- A reply in whose state every port has the command that it had. -/
def KeepsCommands (s : State) (r : Reply) : Prop :=
  ∀ p : PortId, r.state.ports[p].execution = s.ports[p].execution

theorem onPort_execution (q : PortId) {f : Port → Port} (h : ∀ x, (f x).execution = x.execution)
    (s : State) (p : PortId) : (onPort q f s).ports[p].execution = s.ports[p].execution := by
  by_cases hp : q = p
  · subst hp
    rw [onPort_port_self, h]
  · rw [onPort_port_ne hp]

/-- No command changes which commands are in execution: its answer does. -/
theorem dispatched_keepsCommands (q : PortId) (c : Command) (s : State) :
    KeepsCommands s (dispatched q c s) := by
  obtain ⟨k, args⟩ := c
  cases k
  case readNotices => exact onPort_execution q (f := noticesRead) (fun _ => rfl) s
  case setNoticeMask =>
    simp only [dispatched, doSetNoticeMask]
    split
    · exact onPort_execution q (f := fun x => { x with mask := (arg args 0).setWidth 6 })
        (fun _ => rfl) s
    · exact fun _ => rfl
  case portReset =>
    intro p
    show (resetPort s q).ports[p].execution = _
    rw [resetPort_port]
    split <;> rfl
  case readRegister =>
    simp only [dispatched, doReadRegister]
    split
    · exact fun _ => rfl
    · exact fun p => verifyRegister_port_execution ..
  case setRegisterOptions =>
    simp only [dispatched, doSetRegisterOptions]
    split
    · split
      · exact fun _ => rfl
      · exact fun p => verifyRegister_port_execution ..
    · exact fun _ => rfl
  case setTariff =>
    simp only [dispatched, doSetTariff]
    split
    · exact fun _ => rfl
    · intro p
      show (if _ then _ else _ : State).ports[p].execution = _
      split
      · rfl
      · exact tariffChange_port_execution ..
  case commit =>
    simp only [dispatched, doCommit]
    split
    · exact fun _ => rfl
    · rw [committed_eq]
      exact fun _ => rfl
  case readStatus | releaseSetup | clearLog | unknown => exact fun _ => rfl
  -- the commands whose blocks write to no port
  all_goals
    simp only [dispatched, doDefineQuantity, doBindRegister, doDefinePulseInput,
      doDefineDemandChannel, doSnapshotRelease, doUnbindRegister, doClearRegister, doAcceptRegister,
      doReadDemand, doSetCloseOptions, doSetRights, doRequestClose, doReopen, doReadLastResult, doReadLog,
      doSnapshotOpen, doSnapshotRead, doSnapshotRenew, doDefineChain, doSetTariffSource,
      doReadConfiguration, doClaimSetup, doPostIncrement, doReadPulseInput]
    (repeat' split) <;> exact fun _ => rfl

theorem reply_eq {s : State} {r : Reply} {st : Status} {data : List Byte} (hs : r.state = s)
    (hr : r.result = some (st, data)) : r = answer s st data := by
  cases r
  cases hs
  cases hr
  rfl

/-- A reply that leaves the state unchanged where it refuses (R149). -/
def RefusesCleanly (s : State) (r : Reply) : Prop :=
  ∀ st data, r.result = some (st, data) → st ≠ .ok → r.state = s

theorem refusesCleanly_refuse (s : State) (st : Status) : RefusesCleanly s (refuse s st) :=
  fun _ _ _ _ => rfl

theorem refusesCleanly_answer_ok (s t : State) (data : List Byte) :
    RefusesCleanly s (answer t .ok data) := fun _ _ h hne => by
  cases h
  exact absurd rfl hne

/-- An edit or a COMMIT that fails one of its checks has no effect (R176, R178). -/
theorem dispatched_refusesCleanly (q : PortId) {k : CommandKind} (h : takenByEngine k = true)
    (args : List Byte) (s : State) : RefusesCleanly s (dispatched q ⟨k, args⟩ s) := by
  cases k
  case commit =>
    simp only [dispatched, doCommit]
    split
    · exact fun _ _ _ _ => rfl
    · exact refusesCleanly_answer_ok _ _ _
  case clearLog => exact refusesCleanly_answer_ok _ _ _
  case readStatus | readRegister | readLastResult | readNotices | setNoticeMask | portReset | postIncrement
    | setTariff | requestClose | readLog | readDemand | readPulseInput | snapshotOpen | snapshotRead
    | snapshotRenew | snapshotRelease | claimSetup | releaseSetup | reopen | readConfiguration | unknown =>
    exact nomatch h
  all_goals
    simp only [dispatched, doDefineQuantity, doBindRegister, doDefinePulseInput, doSetRegisterOptions,
      doDefineDemandChannel, doUnbindRegister, doClearRegister, doAcceptRegister, doSetCloseOptions,
      doSetRights, doDefineChain, doSetTariffSource]
    (repeat' split) <;> simp only [refusesCleanly_refuse, refusesCleanly_answer_ok]

/-! ### The commands that waited for the capture -/

theorem runOne_execution_ne {p q : PortId} (h : p ≠ q) (ex : Execution) (s : State) :
    (runOne q ex s).ports[p].execution = s.ports[p].execution := by
  have hrun : KeepsCommands s (runCommand q ex.command s) := by
    unfold runCommand
    split
    · exact fun _ => rfl
    · dsimp only
      split
      · exact fun _ => rfl
      · exact dispatched_keepsCommands q ex.command s
  unfold runOne
  dsimp only
  split
  · rw [giveResult_port_ne (Ne.symm h)]
    exact hrun p
  · rw [onPort_port_ne (Ne.symm h)]
    exact hrun p

theorem takeWaiting_execution_ne {p q : PortId} (h : p ≠ q) (s : State) :
    (takeWaiting s q).ports[p].execution = s.ports[p].execution := by
  unfold takeWaiting
  split
  · rw [runOne_execution_ne h, onPort_port_ne (Ne.symm h)]
  · rfl

/-- A port whose command, if it has one, does not wait for the engine. -/
def NoEdit (s : State) (p : PortId) : Prop :=
  ∀ ex, s.ports[p].execution = some ex → takenByEngine ex.command.kind = false

theorem noEdit_of_execution {s t : State} {p : PortId}
    (h : t.ports[p].execution = s.ports[p].execution) (hs : NoEdit s p) : NoEdit t p := by
  unfold NoEdit
  rw [h]
  exact hs

theorem resumeEdit_of_noEdit {s : State} {p : PortId} (h : NoEdit s p) : resumeEdit s p = s := by
  unfold resumeEdit
  split
  next ex he => exact if_neg (ne_true_of_eq_false (h ex he))
  next => rfl

theorem resumeEdit_of_edit {s : State} {p : PortId} {ex : Execution}
    (he : s.ports[p].execution = some ex) (hk : takenByEngine ex.command.kind = true) :
    resumeEdit s p = takeWaiting (runOne p ex s) p := by
  unfold resumeEdit
  rw [he]
  exact if_pos hk

theorem foldl_resumeEdit_of_noEdit {ps : List PortId} {s : State} (h : ∀ p ∈ ps, NoEdit s p) :
    ps.foldl resumeEdit s = s := by
  induction ps with
  | nil => rfl
  | cons p ps ih =>
    rw [List.foldl_cons, resumeEdit_of_noEdit (h p List.mem_cons_self)]
    exact ih fun q hq => h q (List.mem_cons_of_mem p hq)

/-- Where one port's command waits for the engine, the end of the capture resumes that one. -/
theorem foldl_resumeEdit_of_one {ps : List PortId} (hnd : ps.Nodup) {s : State} {q : PortId}
    (hq : q ∈ ps) {ex : Execution} (he : s.ports[q].execution = some ex)
    (hk : takenByEngine ex.command.kind = true) (h : ∀ p, p ≠ q → NoEdit s p) :
    ps.foldl resumeEdit s = takeWaiting (runOne q ex s) q := by
  induction ps with
  | nil => exact absurd hq List.not_mem_nil
  | cons p ps ih =>
    obtain ⟨hp, hnd⟩ := List.nodup_cons.mp hnd
    rw [List.foldl_cons]
    rcases List.mem_cons.mp hq with rfl | hq
    · rw [resumeEdit_of_edit he hk]
      refine foldl_resumeEdit_of_noEdit fun r hr => ?_
      have hne : r ≠ q := fun h => hp (h ▸ hr)
      exact noEdit_of_execution
        ((takeWaiting_execution_ne hne _).trans (runOne_execution_ne hne ex s)) (h r hne)
    · have hne : p ≠ q := fun h => hp (h ▸ hq)
      rw [resumeEdit_of_noEdit (h p hne)]
      exact ih hnd hq

/-! ### The capture -/

/-- The engine at the end of a capture (R32). -/
def engineFreed (s : State) : Engine := if s.store.mode = .setup then .halted else .ready

theorem offer_withEngine (e : Engine) (p : PortId) (n : Notice) (s : State) :
    { offer p n s with engine := e } = offer p n { s with engine := e } := by
  by_cases h : queueing s = true
  · rw [offer, offer, if_pos h, if_pos (show queueing { s with engine := e } = true from h)]
    rfl
  · rw [offer, offer, if_neg h, if_neg (show ¬ queueing { s with engine := e } = true from h)]

theorem exec_captureCompletion {s : State} {i : SnapId} {withdrawn : Bool} {copies : List CapturedEntry}
    {stamp : Stamp} (he : s.engine = .capturing i withdrawn copies stamp) :
    exec .captureCompletion s = .next (([0, 1, 2] : List PortId).foldl resumeEdit
      { arriveCapture i withdrawn copies stamp s with
        engine := engineFreed (arriveCapture i withdrawn copies stamp s) }) := by
  show execCaptureCompletion s = _
  unfold execCaptureCompletion
  rw [he]
  rfl

theorem arriveCapture_pending {i : SnapId} {o : Opened} (copies : List CapturedEntry) (stamp : Stamp)
    {s : State} (h : s.slots[i] = .pending o) : arriveCapture i false copies stamp s
      = offer o.holder (doneCaptureNotice i stamp.counter)
          { s with slots := s.slots.set i (.held o o.lease copies stamp) } := by
  unfold arriveCapture
  rw [h]

/-- The state at the end of a capture, before a command that waited is taken. -/
theorem captureEnded_eq {i : SnapId} {o : Opened} (copies : List CapturedEntry) (stamp : Stamp)
    {s : State} (h : s.slots[i] = .pending o) :
    { arriveCapture i false copies stamp s with
      engine := engineFreed (arriveCapture i false copies stamp s) }
    = offer o.holder (doneCaptureNotice i stamp.counter)
        { s with slots := s.slots.set i (.held o o.lease copies stamp), engine := engineFreed s } := by
  have hmode : engineFreed (arriveCapture i false copies stamp s) = engineFreed s := by
    unfold engineFreed
    rw [arriveCapture_pending copies stamp h, offer_frame]
  rw [hmode, arriveCapture_pending copies stamp h, offer_withEngine]

theorem exec_captureStart {s : State} {i : SnapId} {rest : List SnapId} {o : Opened}
    (hq : s.captureQueue = i :: rest) (ho : s.slots[i] = .pending o) (ht : captureTaken s = true) :
    exec .captureStart s = .next (startCapture i o.list { s with captureQueue := rest }) := by
  show execCaptureStart s = _
  unfold execCaptureStart
  rw [hq]
  dsimp only
  rw [ho]
  exact congrArg Host.Outcome.next (if_pos ht)

theorem startCapture_eq (i : SnapId) (list : List RegSlot) (s : State) : startCapture i list s
    = { list.foldl (verifyRegister .capture) s with
      engine := .capturing i false
        (list.map fun j => capturedEntry j
          (scaleOf (list.foldl (verifyRegister .capture) s)
            (list.foldl (verifyRegister .capture) s).store.registers[j].quantity)
          (list.foldl (verifyRegister .capture) s).store.registers[j])
        (stampOf (list.foldl (verifyRegister .capture) s).store) } := rfl

theorem offer_port_execution (p : PortId) (n : Notice) (s : State) (q : PortId) :
    (offer p n s).ports[q].execution = s.ports[q].execution := offer_execution p n s q.val q.isLt

/-- Settles O40, by the capture begun, the capture ended, and the command that waited for it. -/
theorem captureCopiesTheList : Obligations.CaptureCopiesTheList := by
  intro s
  have hall : ∀ q : PortId, q ∈ ([0, 1, 2] : List PortId) := by decide
  refine ⟨fun i rest o hq ho ht => ⟨_, exec_captureStart hq ho ht, ?_⟩, ?_,
    fun p ex st data t hc hcap hd => ?_, fun i p k args hwf hreq hk htakes hc hcap => ⟨?_, ?_⟩⟩
  · let u : State := { s with captureQueue := rest }
    have hframe := foldl_verifyRegister_eq .capture o.list u
    have hself : ∀ j, j ∉ o.list ∨ checkMatches s j s.store.registers[j] = true →
        (o.list.foldl (verifyRegister .capture) u).store.registers[j] = s.store.registers[j] :=
      fun j hj => foldl_verifyRegister_register .capture _ u j (hj.imp_right .inr)
    have hsuspect := fun j (hj : j ∈ o.list) => foldl_verifyRegister_suspect .capture u hj
    have hports := fun hnd => foldl_verifyRegister_port .capture o.list hnd u
    rw [startCapture_eq]
    generalize o.list.foldl (verifyRegister .capture) { s with captureQueue := rest } = v
      at hframe hself hsuspect hports
    refine ⟨?_, ?_, hself, hsuspect, hports, ?_⟩
    · rw [hframe]
    · rw [hframe]
      rfl
    · rw [hframe]
  · intro i withdrawn copies stamp he free arrived others
    refine ⟨fun hno => ⟨fun hw => ?_, fun o hw ho => ?_⟩,
      fun q ex hother hex hk => ⟨fun hw => ?_, fun o hw ho => ?_⟩⟩
    · subst hw
      rw [exec_captureCompletion he]
      exact congrArg Host.Outcome.next (foldl_resumeEdit_of_noEdit fun p _ => hno p)
    · subst hw
      rw [exec_captureCompletion he, captureEnded_eq copies stamp ho]
      refine congrArg Host.Outcome.next (foldl_resumeEdit_of_noEdit fun p _ => ?_)
      exact noEdit_of_execution (s := s) (offer_port_execution ..) (hno p)
    · subst hw
      rw [exec_captureCompletion he]
      refine congrArg Host.Outcome.next (foldl_resumeEdit_of_one (by decide) (hall q) hex hk ?_)
      exact fun p hp ex' => hother p ex' hp
    · subst hw
      rw [exec_captureCompletion he, captureEnded_eq copies stamp ho]
      refine congrArg Host.Outcome.next (foldl_resumeEdit_of_one (by decide) (hall q) ?_ hk fun p hp => ?_)
      · exact (offer_port_execution ..).trans hex
      · exact noEdit_of_execution (s := s) (offer_port_execution ..) fun ex' => hother p ex' hp
  · unfold runOne
    rw [runOne_of_dispatched hc (.inr (.inl hcap)), hd]
    rfl
  · intro st data hst hd
    rw [dispatched_openFrame] at hd
    have hd' : (dispatched p ⟨k, args⟩ s).result = some (st, data) := hd
    have hstate := dispatched_refusesCleanly p hk args s st data hd' hst
    have hpost : k ≠ .postIncrement := by rintro rfl; exact nomatch hk
    exact exec_answered hreq htakes hpost hc (.inr hst) (reply_eq hstate hd') htakes.2.1
  · exact fun data hd => exec_held hreq htakes hc hk hcap hd

end Sys2Proof.Machine
end

section
/-! The period reset of a close (R19, R109 step 2). -/

namespace Sys2Proof.Machine

/-! ### One register -/

/-- Whether a register is zeroed at the start of a period (R19). -/
def resets (s : State) (i : RegSlot) : Bool :=
  s.store.registers[i].state != .free && s.store.registers[i].periodReset

/-- A register's record at zero, before its check word is written (R19). -/
def atZero (s : State) (i : RegSlot) : RegisterRec :=
  { s.store.registers[i] with
    value := digitsOfNat 12 0, residue := digitsOfNat 3 0, wrapCount := 0
    state := if s.store.registers[i].state = .suspect
        ∨ checkMatches s i s.store.registers[i] = false then .suspect else .live }

/-- The record that the period reset leaves in a slot (R15, R19). -/
def resetRecord (s : State) (i : RegSlot) : RegisterRec :=
  { atZero s i with check := registerCheck i (scaleOf s (atZero s i).quantity) (atZero s i) }

theorem resets_iff (s : State) (i : RegSlot) : resets s i = true ↔
    ¬(s.store.registers[i].state = .free ∨ s.store.registers[i].periodReset = false) := by
  rw [resets, Bool.and_eq_true, bne_iff_ne, not_or, Bool.not_eq_false]

theorem periodResetRegister_of_not {s : State} {i : RegSlot} (h : ¬ resets s i = true) :
    periodResetRegister s i = s :=
  if_pos (not_not.mp (mt (resets_iff s i).mpr h))

theorem zeroed_verifiedRecord {s : State} {i : RegSlot} (h : s.store.registers[i].state ≠ .free) :
    { zeroed (verifiedRecord s i) with
      state := if (verifiedRecord s i).state = .suspect then .suspect else .live }
      = { atZero s i with check := (verifiedRecord s i).check } := by
  obtain ⟨hq, hsel, hdigits, hpol, harch, hreset, _⟩ := verifiedRecord_bound s i
  have hstate : (if (verifiedRecord s i).state = .suspect then RegState.suspect else .live)
      = (atZero s i).state := by
    refine if_congr ?_ rfl rfl
    rcases hm : checkMatches s i s.store.registers[i] with _ | _
    · exact iff_of_true (verifiedRecord_suspect s i h hm) (.inr rfl)
    · have hsame : verifiedRecord s i = s.store.registers[i] := if_pos (.inr hm)
      rw [hsame]
      exact (or_iff_left (nomatch ·)).symm
  unfold zeroed
  rw [hstate, hq, hsel, hdigits, hpol, harch, hreset]
  rfl

theorem periodResetRegister_of {s : State} {i : RegSlot} (h : resets s i = true) :
    periodResetRegister s i = putRegister i (atZero s i) (verifyRegister .periodReset s i) := by
  have hbound := (resets_iff s i).mp h
  have hfree : s.store.registers[i].state ≠ .free := fun hf => hbound (.inl hf)
  refine (if_neg hbound).trans ?_
  show putRegister i
    { zeroed (verifyRegister .periodReset s i).store.registers[i] with
      state := if (verifyRegister .periodReset s i).store.registers[i].state = .suspect then
        .suspect else .live } (verifyRegister .periodReset s i) = _
  rw [verifyRegister_register_self, zeroed_verifiedRecord hfree]
  rfl

/-- What the period reset of one register changes. -/
structure RegistersReset (is : List RegSlot) (s t : State) : Prop where
  register : ∀ j : RegSlot, t.store.registers[j]
    = if j ∈ is ∧ resets s j = true then resetRecord s j else s.store.registers[j]
  port : ∀ p, t.ports[p] = told s (suspectNotices .periodReset s (is.filter (resets s))) p
  frame : t = { s with
    ports := t.ports, store := { s.store with registers := t.store.registers } }

theorem periodResetRegister_reset (i : RegSlot) (s : State) :
    RegistersReset [i] s (periodResetRegister s i) := by
  by_cases h : resets s i = true
  · have hone : [i].filter (resets s) = [i] := List.filter_cons_of_pos h
    rw [periodResetRegister_of h]
    refine ⟨fun j => ?_, fun p => hone.symm ▸ verifyRegister_port .periodReset s i p, ?_⟩
    · by_cases hj : i = j
      · subst hj
        rw [putRegister_register_self, if_pos ⟨List.mem_singleton_self i, h⟩, scaleOf,
          verifyRegister_store_quantities]
        rfl
      · have hout : ¬(j ∈ [i] ∧ resets s j = true) := fun h => hj (List.mem_singleton.mp h.1).symm
        rw [putRegister_register_ne hj, verifyRegister_register_ne _ s hj, if_neg hout]
    · rw [verifyRegister_frame]
      rfl
  · have hnone : [i].filter (resets s) = [] := List.filter_cons_of_neg h
    rw [periodResetRegister_of_not h]
    refine ⟨fun j => ?_, fun p => hnone.symm ▸ (told_nil s p).symm, rfl⟩
    have hout : ¬(j ∈ [i] ∧ resets s j = true) := fun hj => h (List.mem_singleton.mp hj.1 ▸ hj.2)
    rw [if_neg hout]

/-! ### Registers reset in a row -/

/-- What two states that agree on a register, and on the scales, say of it alike. -/
theorem reset_congr {s t : State} {j : RegSlot} (hq : t.store.quantities = s.store.quantities)
    (hj : t.store.registers[j] = s.store.registers[j]) :
    resets t j = resets s j ∧ resetRecord t j = resetRecord s j
      ∧ newlySuspect t j = newlySuspect s j := by
  unfold resetRecord atZero resets newlySuspect checkMatches scaleOf
  rw [hq, hj]
  exact ⟨rfl, rfl, rfl⟩

theorem suspectNotices_congr (f : FoundAt) {s t : State} {is : List RegSlot}
    (hq : t.store.quantities = s.store.quantities)
    (h : ∀ j ∈ is, t.store.registers[j] = s.store.registers[j]) :
    suspectNotices f t is = suspectNotices f s is := by
  unfold suspectNotices
  rw [List.filter_congr fun j hj => (reset_congr hq (h j hj)).2.2]
  exact List.map_congr_left fun j hj => by rw [h j (List.mem_filter.mp hj).1]

theorem suspectNotices_append (f : FoundAt) (s : State) (is js : List RegSlot) :
    suspectNotices f s (is ++ js) = suspectNotices f s is ++ suspectNotices f s js := by
  unfold suspectNotices
  rw [List.filter_append, List.map_append]

theorem foldl_periodResetRegister {is : List RegSlot} (hnd : is.Nodup) (s : State) :
    RegistersReset is s (is.foldl periodResetRegister s) := by
  induction is generalizing s with
  | nil => exact ⟨fun j => (if_neg fun h => List.not_mem_nil h.1).symm, fun p => (told_nil s p).symm, rfl⟩
  | cons i is ih =>
    obtain ⟨hi, hnd⟩ := List.nodup_cons.mp hnd
    obtain ⟨hreg, hport, hframe⟩ := periodResetRegister_reset i s
    obtain ⟨ihreg, ihport, ihframe⟩ := ih hnd (periodResetRegister s i)
    rw [List.foldl_cons]
    generalize periodResetRegister s i = u at *
    have hquant : u.store.quantities = s.store.quantities := by rw [hframe]
    have hother : ∀ j ∈ is, u.store.registers[j] = s.store.registers[j] := fun j hj => by
      have hout : ¬(j ∈ [i] ∧ resets s j = true) := fun h => hi (List.mem_singleton.mp h.1 ▸ hj)
      rw [hreg, if_neg hout]
    refine ⟨fun j => ?_, fun p => ?_, ?_⟩
    · rw [ihreg]
      by_cases hj : j ∈ is
      · obtain ⟨hresets, hrecord, _⟩ := reset_congr hquant (hother j hj)
        rw [hother j hj, hrecord]
        simp only [hresets, hj, List.mem_cons, or_true]
      · have hout : ¬(j ∈ is ∧ resets u j = true) := fun h => hj h.1
        rw [if_neg hout, hreg]
        simp only [List.mem_cons, hj, or_false, List.not_mem_nil]
    · have hrest : suspectNotices .periodReset u (is.filter (resets u))
          = suspectNotices .periodReset s (is.filter (resets s)) := by
        rw [List.filter_congr fun j hj => (reset_congr hquant (hother j hj)).1]
        exact suspectNotices_congr _ hquant fun j hj => hother j (List.mem_filter.mp hj).1
      have hfirst : (i :: is).filter (resets s) = [i].filter (resets s) ++ is.filter (resets s) :=
        List.filter_append [i] is
      rw [ihport, hrest, told_append (hport p) (by rw [hframe]) (by rw [hframe]), hfirst,
        suspectNotices_append]
    · rw [ihframe]
      generalize is.foldl periodResetRegister u = v
      rw [hframe]

end Sys2Proof.Machine
end

section
/-! The completion of a close (R84, R109, R110, R140, R182). -/

namespace Sys2Proof.Machine

/-! ### The new period -/

/-- The chains as a completion leaves them before the close is at its end (R84, R109 step 6). -/
def periodChains (cause : Cause) (s : State) : Chains where
  demand := if s.supply = .runSupply ∧ cause ≠ .setup then loaded s.store.chains.demand
    else s.store.chains.demand
  overdue := loaded s.store.chains.overdue
  inhibit := if s.store.closeOptions.inhibitEnabled then loaded s.store.chains.inhibit
    else s.store.chains.inhibit

/-- The store in the new period (R109 steps 3 to 6). -/
def periodStarted (cause : Cause) (s : State) : State :=
  { s with store := { s.store with
    channels := s.store.channels.map fun ch => { ch with maxima := zeroMaxima }
    intervalIndex := 0, periodNumber := s.store.periodNumber + 1, periodDuration := 0
    chains := periodChains cause s } }

theorem startPeriod_eq (s : State) : startPeriod s = { s with store := { s.store with
    periodNumber := s.store.periodNumber + 1, periodDuration := 0
    chains := { s.store.chains with
      overdue := loaded s.store.chains.overdue
      inhibit := if s.store.closeOptions.inhibitEnabled then loaded s.store.chains.inhibit
        else s.store.chains.inhibit } } } := by
  unfold startPeriod
  dsimp only
  by_cases h : s.store.closeOptions.inhibitEnabled = true
  · refine (if_pos h).trans ?_
    simp only [if_pos h]
    rfl
  · refine (if_neg h).trans ?_
    simp only [if_neg h]
    rfl

theorem demandCloseCompletion_eq (cause : Cause) (s : State) :
    demandCloseCompletion cause s = { s with store := { s.store with
      channels := s.store.channels.map fun ch => { ch with maxima := zeroMaxima }
      intervalIndex := 0
      chains := { s.store.chains with
        demand := if s.supply = .runSupply ∧ cause ≠ .setup then loaded s.store.chains.demand
          else s.store.chains.demand } } } := by
  unfold demandCloseCompletion
  dsimp only
  by_cases h : s.supply = .runSupply ∧ cause ≠ .setup
  · refine (if_pos h).trans ?_
    simp only [if_pos h]
    rfl
  · refine (if_neg h).trans ?_
    simp only [if_neg h]
    rfl

theorem startPeriod_demandCloseCompletion (cause : Cause) (s : State) :
    startPeriod (demandCloseCompletion cause s) = periodStarted cause s := by
  rw [startPeriod_eq, demandCloseCompletion_eq]
  rfl

/-! ### The notices of a completion -/

/-- The DONE of a close that was requested by command (R109 step 8). -/
def closeDoneNotices (c : CurrentClose) (s : State) (p : PortId) : List Notice :=
  if c.cause = .command ∧ c.requester = some p ∧ s.doneOwed = true then
    [doneCloseNotice .requestClose s.store.periodNumber] else []

theorem closeDone_port (c : CurrentClose) (closed : BitVec 16) (s : State) (p : PortId) :
    (closeDone c closed s).ports[p] = told s (if c.cause = .command ∧ c.requester = some p
      ∧ s.doneOwed = true then [doneCloseNotice .requestClose closed] else []) p := by
  unfold closeDone
  split
  next q hcause hreq howed =>
    rw [offer_port_told (fun _ => rfl)]
    refine congrArg (told s · p) (if_congr ?_ rfl rfl)
    rw [hcause, hreq, howed, Option.some.injEq]
    exact ⟨fun h => ⟨rfl, h, rfl⟩, fun h => h.2.1⟩
  next hno =>
    have hout : ¬(c.cause = .command ∧ c.requester = some p ∧ s.doneOwed = true) :=
      fun ⟨h1, h2, h3⟩ => hno p h1 h2 h3
    rw [if_neg hout, told_nil]

theorem closeDone_ports_frame (c : CurrentClose) (closed : BitVec 16) (s : State) :
    closeDone c closed s = { s with ports := (closeDone c closed s).ports } := by
  unfold closeDone
  split
  · rw [offer_frame]
  · rfl

/-- The record in the log, and the registers at zero (R109 steps 1 and 2). -/
theorem periodResetAll_appendRecord (bytes : List Byte) (s : State) :
    ∃ (ports : Vector Port 3) (registers : Vector RegisterRec 32),
      periodResetAll (appendRecord bytes s) = { s with
        ports := ports
        store := { s.store with
          registers := registers
          log := logOf (s.store.log.entries ++ [⟨bytes.length, false, bytes⟩]) } }
      ∧ (∀ i : RegSlot, registers[i]
        = if resets s i = true then resetRecord s i else s.store.registers[i])
      ∧ ∀ p : PortId, ports[p]
        = told s (suspectNotices .periodReset s ((List.finRange 32).filter (resets s))) p := by
  obtain ⟨hreg, hport, hframe⟩ :=
    foldl_periodResetRegister (List.nodup_finRange 32) (appendRecord bytes s)
  unfold periodResetAll
  generalize (List.finRange 32).foldl periodResetRegister (appendRecord bytes s) = v at *
  refine ⟨v.ports, v.store.registers, hframe, fun i => (hreg i).trans ?_, hport⟩
  exact if_congr (and_iff_right (List.mem_finRange i)) rfl rfl

/-- The state of a completion at the moment the close is at its end (R109 steps 1 to 8). -/
theorem closeTold_eq (c : CurrentClose) (b : Building) (s : State) :
    ∃ (ports : Vector Port 3) (registers : Vector RegisterRec 32),
      closeTold c b s = { s with
        ports := ports
        store := { s.store with
          registers := registers
          log := logOf (s.store.log.entries ++ [⟨b.bytes.length, false, b.bytes⟩])
          channels := s.store.channels.map fun ch => { ch with maxima := zeroMaxima }
          intervalIndex := 0, periodNumber := s.store.periodNumber + 1, periodDuration := 0
          chains := periodChains c.cause s } }
      ∧ (∀ i : RegSlot, registers[i]
        = if resets s i = true then resetRecord s i else s.store.registers[i])
      ∧ ∀ p : PortId, ports[p] = told s
          (suspectNotices .periodReset s ((List.finRange 32).filter (resets s))
            ++ [closedNotice c.cause s.store.periodNumber c.requester b.removed]
            ++ closeDoneNotices c s p) p := by
  obtain ⟨ports, registers, heq, hreg, hport⟩ := periodResetAll_appendRecord b.bytes s
  let closed : Notice := closedNotice c.cause s.store.periodNumber c.requester b.removed
  let w : State := periodStarted c.cause (periodResetAll (appendRecord b.bytes s))
  have hw : w = { s with
      ports := ports
      store := { s.store with
        registers := registers
        log := logOf (s.store.log.entries ++ [⟨b.bytes.length, false, b.bytes⟩])
        channels := s.store.channels.map fun ch => { ch with maxima := zeroMaxima }
        intervalIndex := 0, periodNumber := s.store.periodNumber + 1, periodDuration := 0
        chains := periodChains c.cause s } } := by
    show periodStarted c.cause (periodResetAll (appendRecord b.bytes s)) = _
    rw [heq]
    rfl
  have htold : closeTold c b s = closeDone c s.store.periodNumber (raise closed w) := by
    unfold closeTold
    rw [startPeriod_demandCloseCompletion]
  rw [htold]
  clear_value w
  have hdone : closeDone c s.store.periodNumber (raise closed w)
      = { w with ports := (closeDone c s.store.periodNumber (raise closed w)).ports } := by
    have hframe := closeDone_ports_frame c s.store.periodNumber (raise closed w)
    rw [raise_frame] at hframe
    rw [raise_frame]
    exact hframe
  refine ⟨(closeDone c s.store.periodNumber (raise closed w)).ports, registers, ?_, hreg, fun p => ?_⟩
  · rw [hdone]
    generalize (closeDone c s.store.periodNumber (raise closed w)).ports = ps
    rw [hw]
  · have hwp : w.ports[p]
        = told s (suspectNotices .periodReset s ((List.finRange 32).filter (resets s))) p := by
      rw [hw]
      exact hport p
    have hclosed : (raise closed w).ports[p] = told s
        (suspectNotices .periodReset s ((List.finRange 32).filter (resets s)) ++ [closed]) p := by
      rw [raise_port_told]
      exact told_append hwp (by rw [hw]) (by rw [hw]) [closed]
    have howed : (raise closed w).doneOwed = s.doneOwed := by rw [raise_frame, hw]
    rw [closeDone_port, howed]
    exact told_append hclosed (by rw [raise_frame, hw]) (by rw [raise_frame, hw]) _

/-! ### The latch at the end of a close -/

theorem inhibitActive_iff (s : State) : inhibitActive s = true ↔
    s.store.closeOptions.inhibitEnabled = true
      ∧ (s.store.chains.inhibit.state = .running ∨ s.store.chains.inhibit.state = .held) := by
  rw [inhibitActive, Bool.and_eq_true, Bool.or_eq_true, beq_iff_eq, beq_iff_eq]

/-- Whether the period unit looks at a set latch when a close is at its end (R96). -/
def LatchExamined (s : State) : Prop :=
  s.latch = true ∧ s.store.mode = .run ∧ s.supply = .runSupply

/-- Whether it then takes the next close (R96). -/
def LatchTaken (s : State) : Prop :=
  LatchExamined s ∧ ¬ inhibitActive s = true ∧ s.store.closeOptions.lineMode ≠ .off

/-- What the period unit does with the latch at the end of a close (R96, R97). -/
structure LatchActed (s t : State) : Prop where
  taken : LatchTaken s → t.closeState = .requested ∧ t.currentClose = some ⟨.line, none⟩
    ∧ t.latch = false ∧ t.store.overdueHeld = false ∧ t.accumulators = Vector.replicate 4 0
    ∧ t.intervalPartial = true
    ∧ t.store.chains = { s.store.chains with demand := held s.store.chains.demand }
  left : ¬ LatchTaken s → t.closeState = s.closeState ∧ t.currentClose = s.currentClose
    ∧ t.store.overdueHeld = s.store.overdueHeld ∧ t.accumulators = s.accumulators
    ∧ t.intervalPartial = s.intervalPartial ∧ t.store.chains = s.store.chains
  cleared : LatchExamined s → inhibitActive s = true → s.store.closeOptions.lineMode = .edge →
    t.latch = false
  kept : ¬ LatchExamined s ∨ s.store.closeOptions.lineMode = .off
    ∨ (inhibitActive s = true ∧ s.store.closeOptions.lineMode = .level) → t.latch = s.latch
  owed : s.doneOwed = false → t.doneOwed = false
  frame : t = { s with
    closeState := t.closeState, currentClose := t.currentClose, doneOwed := t.doneOwed
    latch := t.latch, accumulators := t.accumulators, intervalPartial := t.intervalPartial
    store := { s.store with overdueHeld := t.store.overdueHeld, chains := t.store.chains } }

theorem latchActed_self {s : State} (htaken : ¬ LatchTaken s)
    (hkept : ¬(LatchExamined s ∧ inhibitActive s = true ∧ s.store.closeOptions.lineMode = .edge)) :
    LatchActed s s :=
  ⟨fun h => absurd h htaken, fun _ => ⟨rfl, rfl, rfl, rfl, rfl, rfl⟩,
    fun he hi hm => absurd ⟨he, hi, hm⟩ hkept, fun _ => rfl, id, rfl⟩

theorem examineLatch_off {s : State} (h : s.store.closeOptions.lineMode = .off) :
    examineLatch s = s := by
  unfold examineLatch
  split
  · rw [h]
  · rfl

theorem examineLatch_acted {s : State} (hidle : s.closeState = .idle) :
    LatchActed s (examineLatch s) := by
  by_cases hoff : s.store.closeOptions.lineMode = .off
  · rw [examineLatch_off hoff]
    exact latchActed_self (fun h => h.2.2 hoff) fun h => by
      rw [hoff] at h
      exact nomatch h.2.2
  by_cases he : LatchExamined s
  · obtain ⟨hlatch, hmode, hsupply⟩ := he
    have hsampled : LatchSampled s := ⟨hlatch, hsupply, hoff⟩
    by_cases hin : inhibitActive s = true
    · have htaken : ¬ LatchTaken s := fun h => h.2.1 hin
      cases hm : s.store.closeOptions.lineMode with
      | off => exact absurd hm hoff
      | edge =>
        rw [examineLatch_clears hsampled ⟨hidle, hmode⟩ hin hm]
        refine ⟨fun h => absurd h htaken, fun _ => ⟨rfl, rfl, rfl, rfl, rfl, rfl⟩, fun _ _ _ => rfl,
          fun h => ?_, id, rfl⟩
        rw [hm] at h
        exact absurd ⟨hlatch, hmode, hsupply⟩
          (h.resolve_right fun h => h.elim (nomatch ·) fun h => nomatch h.2)
      | level =>
        rw [examineLatch_stays hsampled (.inr ⟨hin, hm⟩)]
        exact latchActed_self htaken fun h => by
          rw [hm] at h
          exact nomatch h.2.2
    · rw [examineLatch_takes hsampled ⟨hidle, hmode⟩ (Bool.eq_false_of_not_eq_true hin)]
      have htaken : LatchTaken s := ⟨⟨hlatch, hmode, hsupply⟩, hin, hoff⟩
      refine ⟨fun _ => ⟨rfl, rfl, rfl, rfl, rfl, rfl, rfl⟩, fun h => absurd htaken h,
        fun _ h => absurd h hin, fun h => ?_, fun _ => rfl, rfl⟩
      exact absurd ⟨hlatch, hmode, hsupply⟩
        (h.resolve_right fun h => h.elim hoff fun h => hin h.1)
  · have hself : examineLatch s = s := if_neg fun ⟨h1, _, h2, h3⟩ => he ⟨h1, h2, h3⟩
    rw [hself]
    exact latchActed_self (fun h => he h.1) (fun h => he h.1)

/-! ### The entry to SETUP -/

/-- Who holds the claim after a SETUP close (R182, R183). -/
def setupClaim (s : State) : Option PortId :=
  match s.reopen with
  | some ⟨p, true⟩ => if s.supply = .runSupply then some p else s.claim
  | some ⟨_, false⟩ | none => s.claim

/-- The state in SETUP, its chains held, before the claim is given (R140, R182). -/
def setupEntered (s : State) : State :=
  { s with
    engine := .halted, reopen := none
    store := { s.store with
      mode := .setup
      chains := ⟨held s.store.chains.demand, held s.store.chains.overdue,
        held s.store.chains.inhibit⟩ } }

theorem setupChains_eq (s : State) :
    onChain .demand held (onChain .inhibit held (onChain .overdue held
      (onStore (fun st => { st with mode := .setup }) { s with engine := .halted })))
      = { setupEntered s with reopen := s.reopen } := rfl

theorem enterSetup_owed (closed : BitVec 16) {s : State} {p : PortId} (h : s.reopen = some ⟨p, true⟩) :
    setupClaim s = (if s.supply = .runSupply then some p else s.claim)
    ∧ enterSetup closed s = if s.supply = .runSupply then
        offer p (doneCloseNotice .reopen closed) { setupEntered s with claim := some p }
      else setupEntered s := by
  unfold setupClaim enterSetup
  dsimp only
  rw [setupChains_eq, h]
  exact ⟨rfl, rfl⟩

theorem enterSetup_not_owed (closed : BitVec 16) {s : State} (h : ∀ p, s.reopen ≠ some ⟨p, true⟩) :
    setupClaim s = s.claim ∧ enterSetup closed s = setupEntered s := by
  unfold setupClaim enterSetup
  dsimp only
  rw [setupChains_eq]
  rcases hr : s.reopen with _ | ⟨p, _ | _⟩
  · exact ⟨rfl, rfl⟩
  · exact ⟨rfl, rfl⟩
  · exact absurd hr (h p)

theorem enterSetup_eq (closed : BitVec 16) (s : State) : ∃ ports : Vector Port 3,
    enterSetup closed s = { setupEntered s with ports := ports, claim := setupClaim s }
    ∧ ∀ p : PortId, ports[p] = told s (if s.reopen = some ⟨p, true⟩ then
        [doneCloseNotice .reopen closed] else []) p := by
  by_cases howed : ∃ p, s.reopen = some ⟨p, true⟩
  · obtain ⟨q, hq⟩ := howed
    obtain ⟨hclaim, heq⟩ := enterSetup_owed closed hq
    have hiff : ∀ p, s.reopen = some ⟨p, true⟩ ↔ q = p := fun p => by
      rw [hq]
      exact ⟨fun h => by cases h; rfl, fun h => h ▸ rfl⟩
    simp only [hiff]
    rw [heq, hclaim]
    by_cases hs : s.supply = .runSupply
    · rw [if_pos hs, if_pos hs]
      refine ⟨_, offer_frame .., fun p => ?_⟩
      exact offer_port_told (fun _ => rfl) { setupEntered s with claim := some q } p
    · rw [if_neg hs, if_neg hs]
      refine ⟨s.ports, rfl, fun p => ?_⟩
      exact (if_neg fun h => hs h.2).symm
  · rw [not_exists] at howed
    obtain ⟨hclaim, heq⟩ := enterSetup_not_owed closed howed
    rw [heq, hclaim]
    refine ⟨s.ports, rfl, fun p => ?_⟩
    rw [if_neg (howed p), told_nil]

/-! ### The completion -/

/-- The state of a completion with the close at its end, before SETUP is entered or the latch looked at. -/
def closeClosed (c : CurrentClose) (b : Building) (ports : Vector Port 3)
    (registers : Vector RegisterRec 32) (s : State) : State :=
  { s with
    closeState := .idle, currentClose := none, doneOwed := false, building := none
    ports := ports
    store := { s.store with
      registers := registers
      log := logOf (s.store.log.entries ++ [⟨b.bytes.length, false, b.bytes⟩])
      channels := s.store.channels.map fun ch => { ch with maxima := zeroMaxima }
      intervalIndex := 0, periodNumber := s.store.periodNumber + 1, periodDuration := 0
      chains := periodChains c.cause s } }

theorem completeClose_of_told {c : CurrentClose} {b : Building} {ports : Vector Port 3}
    {registers : Vector RegisterRec 32} {s : State}
    (h : closeTold c b s = { s with
      ports := ports
      store := { s.store with
        registers := registers
        log := logOf (s.store.log.entries ++ [⟨b.bytes.length, false, b.bytes⟩])
        channels := s.store.channels.map fun ch => { ch with maxima := zeroMaxima }
        intervalIndex := 0, periodNumber := s.store.periodNumber + 1, periodDuration := 0
        chains := periodChains c.cause s } }) :
    completeClose c b s = if c.cause = .setup then
        enterSetup s.store.periodNumber (closeClosed c b ports registers s)
      else examineLatch { closeClosed c b ports registers s with engine := .ready } := by
  show (if c.cause = .setup then
      enterSetup s.store.periodNumber { closeTold c b s with
        closeState := .idle, currentClose := none, doneOwed := false, building := none }
    else examineLatch { closeTold c b s with
        closeState := .idle, currentClose := none, doneOwed := false, building := none
        engine := .ready }) = _
  rw [h]
  rfl

theorem zeroed_channels (v : Vector Channel 4) (d : ChannelId) :
    let w : Vector Channel 4 := v.map fun ch => { ch with maxima := zeroMaxima }
    w[d].quantity = v[d].quantity ∧ ∀ k : Fin 4, w[d].maxima[k] = ⟨0, 0⟩ := by
  intro w
  have hd : w[d] = { v[d] with maxima := zeroMaxima } := get_map v _ d
  rw [hd]
  exact ⟨rfl, fun k => get_replicate 4 _ k⟩

theorem exec_closeCompletion {c : CurrentClose} {b : Building} {s : State} (he : s.engine = .closing)
    (hc : s.currentClose = some c) (hb : s.building = some b) :
    exec .closeCompletion s = .next (completeClose c b s) := by
  show execCloseCompletion s = _
  unfold execCloseCompletion
  rw [he, hc, hb]

/-- Settles O33, from the state told of the close, by whether SETUP is entered. -/
theorem closeCompletionStartsThePeriod : Obligations.CloseCompletionStartsThePeriod := by
  intro c b s he hc hb closed zeroes inhibit inhibited demand examined takes
  obtain ⟨ports, registers, htold, hreg, hport⟩ := closeTold_eq c b s
  have hexec := exec_closeCompletion he hc hb
  rw [completeClose_of_told htold] at hexec
  let u : State := closeClosed c b ports registers s
  have hregisters : ∀ i : RegSlot, (zeroes i = false → registers[i] = s.store.registers[i])
      ∧ (zeroes i = true → registers[i] = resetRecord s i) := fun i =>
    ⟨fun h => (hreg i).trans (if_neg (ne_true_of_eq_false h)), fun h => (hreg i).trans (if_pos h)⟩
  by_cases hsetup : c.cause = .setup
  · rw [if_pos hsetup] at hexec
    obtain ⟨ports', heq, hport'⟩ := enterSetup_eq s.store.periodNumber u
    have hnottakes : ¬ takes := fun h => h.1.1 hsetup
    have hnotexamined : ¬ examined := fun h => h.1 hsetup
    refine ⟨_, hexec, ?_⟩
    rw [heq]
    refine ⟨rfl, rfl, rfl, rfl, rfl, zeroed_channels _, hregisters, fun p => ?_,
      fun _ => ⟨rfl, rfl, rfl, ?_, ?_⟩, fun h => absurd hsetup h, fun h => absurd h hnottakes,
      fun _ => ⟨rfl, rfl, rfl, rfl, rfl, fun h => absurd hsetup h⟩, fun h => absurd h hnotexamined,
      fun _ => rfl, rfl, rfl⟩
    · refine (hport' p).trans ((told_append (t := u) (hport p) rfl rfl _).trans ?_)
      refine congrArg (told s · p) (congrArg₂ (· ++ ·) rfl ?_)
      exact if_congr (and_iff_right hsetup).symm rfl rfl
    · have hdemand : (periodChains c.cause s).demand = s.store.chains.demand :=
        if_neg fun h => h.2 hsetup
      show Chains.mk (held (periodChains c.cause s).demand) _ _ = _
      rw [hdemand]
      rfl
    · show setupClaim s = _
      unfold setupClaim
      rcases s.reopen with _ | ⟨p, _ | _⟩ <;> rfl
  · rw [if_neg hsetup] at hexec
    let r : State := { u with engine := .ready }
    have hexamined : examined ↔ LatchExamined r := and_iff_right hsetup
    have hinhibited : inhibited ↔ inhibitActive r = true := (inhibitActive_iff r).symm
    have htakes : takes ↔ LatchTaken r :=
      and_congr hexamined (and_congr (not_congr hinhibited) Iff.rfl)
    have hchains : r.store.chains = ⟨demand, loaded s.store.chains.overdue, inhibit⟩ := by
      show periodChains c.cause s = _
      have hdemand : (periodChains c.cause s).demand = demand :=
        if_congr (and_iff_left hsetup) rfl rfl
      rw [← hdemand]
      rfl
    rw [hexamined, htakes, hinhibited]
    obtain ⟨htaken, hleft, hcleared, hkept, howed, hframe⟩ := examineLatch_acted (s := r) rfl
    refine ⟨_, hexec, ?_⟩
    generalize examineLatch { closeClosed c b ports registers s with engine := .ready } = t
      at htaken hleft hcleared hkept howed hframe
    have hstore := congrArg State.store hframe
    have hlog := congrArg Store.log hstore
    have hnumber := congrArg Store.periodNumber hstore
    have hduration := congrArg Store.periodDuration hstore
    have hindex := congrArg Store.intervalIndex hstore
    have hbuilding := congrArg State.building hframe
    have hmode := congrArg Store.mode hstore
    have hengine := congrArg State.engine hframe
    have hreopen := congrArg State.reopen hframe
    have hclaim := congrArg State.claim hframe
    have hchannels : t.store.channels = r.store.channels := (congrArg Store.channels hstore :)
    have hregs : t.store.registers = registers := (congrArg Store.registers hstore :)
    have hports : t.ports = ports := (congrArg State.ports hframe :)
    refine ⟨hlog, hnumber, hduration, hindex, hbuilding, ?_, ?_, fun p => ?_, fun h => absurd h hsetup,
      fun _ => ⟨hmode, hengine, hreopen, hclaim⟩, fun h => ?_, fun h => ?_, hcleared, hkept,
      howed rfl, ?_⟩
    · rw [hchannels]
      exact zeroed_channels _
    · rw [hregs]
      exact hregisters
    · rw [hports, hport p]
      refine congrArg (told s · p) ((List.append_nil _).symm.trans ?_)
      exact congrArg₂ (· ++ ·) rfl (if_neg fun h => hsetup h.1).symm
    · obtain ⟨h1, h2, h3, h4, h5, h6, h7⟩ := htaken h
      refine ⟨h1, h2, h3, h4, h5, h6, h7.trans ?_⟩
      rw [hchains]
    · obtain ⟨h1, h2, h3, h4, h5, h6⟩ := hleft h
      exact ⟨h1, h2, h3, h4, h5, fun _ => h6.trans hchains⟩
    · rw [hframe]
      rfl

end Sys2Proof.Machine
end

section
/-! The restore (R81, R85, R100, R108, R190 to R192). -/

namespace Sys2Proof.Machine

/-! ### The ports as they come up -/

/-- A port that came up and was told notices: its queue holds the first eight (R153, R160). -/
def portUp (ns : List Notice) : Port :=
  ⟨none, none, none, ns.take 8, !ns.isEmpty, decide (8 < ns.length), 0x3F#6, .quiet⟩

theorem maskEnables_all (k : NoticeKind) : maskEnables 0x3F#6 k = true := by
  cases k <;> rfl

theorem queued_portUp (n : Notice) (ns : List Notice) : queued n (portUp ns) = portUp (ns ++ [n]) := by
  have hattn : (ns ++ [n]).isEmpty = false := by cases ns <;> rfl
  by_cases h : ns.length < 8
  · have hfits : (ns.take 8).length < 8 := by rw [List.length_take]; omega
    have hover : decide (8 < (ns ++ [n]).length) = decide (8 < ns.length) := by
      rw [List.length_append, List.length_singleton, decide_eq_decide]
      omega
    rw [queued, portUp, if_pos hfits, portUp, hattn, hover, List.take_of_length_le h.le,
      List.take_of_length_le (by rw [List.length_append, List.length_singleton]; omega)]
    rfl
  · have hfull : ¬ (ns.take 8).length < 8 := by rw [List.length_take]; omega
    have hsome : ns.isEmpty = false := by
      cases ns with
      | nil => exact absurd (by decide) h
      | cons => rfl
    have hover : decide (8 < (ns ++ [n]).length) = true := by
      rw [List.length_append, List.length_singleton, decide_eq_true_iff]
      omega
    rw [queued, portUp, if_neg hfull, portUp, hattn, hsome, hover,
      List.take_append_of_le_length (not_lt.mp h)]

theorem foldl_queued_portUp (ns ms : List Notice) :
    ns.foldl (fun q n => if maskEnables q.mask n.kind then queued n q else q) (portUp ms)
      = portUp (ms ++ ns) := by
  induction ns generalizing ms with
  | nil => rw [List.foldl_nil, List.append_nil]
  | cons n ns ih =>
    have hmask : maskEnables (portUp ms).mask n.kind = true := maskEnables_all n.kind
    rw [List.foldl_cons, if_pos hmask, queued_portUp, ih, List.append_assoc]
    rfl

/-- A port told notices as it comes up. -/
theorem told_of_idle {s : State} {p : PortId} (hup : s.portsUp = true) (hs : s.supply = .runSupply)
    (hp : s.ports[p] = idlePort) (ns : List Notice) : told s ns p = portUp ns := by
  rw [told, if_pos ⟨hup, hs⟩, hp]
  exact foldl_queued_portUp ns []

theorem foldl_suspectNotice (is : List RegSlot) (s : State) :
    is.foldl (fun s i => raise (suspectNotice i s.store.registers[i] .restore) s) s
      = raised (is.map fun i => suspectNotice i s.store.registers[i] .restore) s := by
  induction is generalizing s with
  | nil => rfl
  | cons i is ih =>
    rw [List.foldl_cons, ih, raise_store, List.map_cons]
    rfl

/-- The notices of a restore (R190 step 10). -/
def restoreNotices (owed : List RegSlot) (s : State) : List Notice :=
  restoredNotice s.store.coldMarker (if s.store.coldMarker then 0 else s.retainDuration)
    :: owed.map fun i => suspectNotice i s.store.registers[i] .restore

theorem portsComeUp_eq (owed : List RegSlot) {s : State} (hs : s.supply = .runSupply) :
    ∃ ports : Vector Port 3, portsComeUp owed s = { s with
      ports := ports, portsUp := true, store := { s.store with coldMarker := false } }
    ∧ ∀ p : PortId, ports[p] = portUp (restoreNotices owed s) := by
  let u : State := { s with ports := Vector.replicate 3 idlePort, portsUp := true }
  let restored : Notice := restoredNotice s.store.coldMarker
    (if s.store.coldMarker then 0 else s.retainDuration)
  let v : State := onStore (fun st => { st with coldMarker := false }) (raise restored u)
  have hv : v = { u with
      ports := v.ports, store := { u.store with coldMarker := false } } := by
    show onStore _ (raise restored u) = _
    rw [raise_frame]
    rfl
  have hvport : ∀ p : PortId, v.ports[p] = told u [restored] p := raise_port_told restored u
  have hup : portsComeUp owed s
      = raised (owed.map fun i => suspectNotice i v.store.registers[i] .restore) v :=
    foldl_suspectNotice owed v
  rw [hup]
  clear_value v
  let owedNotices : List Notice := owed.map fun i => suspectNotice i v.store.registers[i] .restore
  refine ⟨(raised owedNotices v).ports, (raised_frame owedNotices v).trans ?_,
    fun p => (raised_port owedNotices v p).trans ?_⟩
  · rw [hv]
  · rw [told_append (hvport p) (by rw [hv]) (by rw [hv]),
      told_of_idle (s := u) rfl hs (get_replicate 3 idlePort p)]
    show portUp (restored :: owed.map _) = _
    rw [hv]
    rfl

/-! ### The steps of a restore -/

/-- Whether a restore takes a held OVERDUE (R100, R190 step 7). -/
abbrev OverdueTaken (s : State) : Prop :=
  s.store.mode = .run ∧ s.store.overdueHeld = true ∧ inhibitActive s = false

theorem restoreBlocks_eq (s : State) :
    ∃ (ports : Vector Port 3) (registers : Vector RegisterRec 32), restoreBlocks s = { s with
      ports := ports, inputs := (restartInputs s).inputs
      store := { s.store with registers := registers, log := verifiedLog s.store.log }
      converterPointer := 7, arbiterPointer := .converter, lineHistory := none
      recognizer := unknownRecognizer, latch := false }
    ∧ ∀ i : RegSlot, registers[i] = verifiedRecord s i := by
  have hframe := foldl_verifyRegister_eq .restore (List.finRange 32) s
  have hget := foldl_verifyRegister_get .restore (List.finRange 32) s
  unfold restoreBlocks
  generalize (List.finRange 32).foldl (verifyRegister .restore) s = v at hframe hget
  refine ⟨v.ports, v.store.registers, ?_, fun i => (hget i).trans (if_pos (List.mem_finRange i))⟩
  rw [hframe]
  rfl

/-- The demand interval of a restore (R81, R85). -/
def intervalRestored (s : State) : State :=
  { s with
    accumulators := Vector.replicate 4 0, intervalPartial := true
    engine := if s.store.mode = .run then .ready else .halted, supply := .runSupply
    store := { s.store with
      intervalIndex := if s.store.mode = .run then min (s.store.intervalIndex + 1) 65535
        else s.store.intervalIndex
      chains := { s.store.chains with
        demand := if s.store.mode = .run then loaded (heldAtReload s.store.chains.demand)
          else heldAtReload s.store.chains.demand } } }

theorem intervalRestored_eq (s : State) :
    (if s.store.mode = .run then partialEnd (woken s) else clearInterval (woken s))
      = intervalRestored s := by
  unfold intervalRestored
  by_cases h : s.store.mode = .run
  · simp only [if_pos h]
    unfold woken
    rw [if_pos h]
    rfl
  · simp only [if_neg h]
    unfold woken
    rw [if_neg h]
    rfl

/-- A held OVERDUE at a restore (R100). -/
def overdueRestored (s : State) : State :=
  { s with
    closeState := if OverdueTaken s then .requested else s.closeState
    currentClose := if OverdueTaken s then some ⟨.overdue, none⟩ else s.currentClose
    doneOwed := if OverdueTaken s then false else s.doneOwed
    latch := if OverdueTaken s then false else s.latch
    accumulators := if OverdueTaken s then Vector.replicate 4 0 else s.accumulators
    intervalPartial := if OverdueTaken s then true else s.intervalPartial
    store := { s.store with
      overdueHeld := if OverdueTaken s then false else s.store.overdueHeld
      chains := { s.store.chains with
        demand := if OverdueTaken s then held s.store.chains.demand else s.store.chains.demand } } }

theorem restoreOverdue_eq (s : State) : restoreOverdue s = overdueRestored s := by
  unfold restoreOverdue overdueRestored
  by_cases h : OverdueTaken s
  · simp only [if_pos h]
    rfl
  · simp only [if_neg h]

end Sys2Proof.Machine
end

section
/-! The rows of a restore (R187, R190 to R192). -/

namespace Sys2Proof.Machine

/-! ### A restore in one piece -/

/-- A restore with its blocks, the demand interval and a held OVERDUE done, from what verification left. -/
def restoreDone (ports : Vector Port 3) (registers : Vector RegisterRec 32) (s : State) : State :=
  overdueRestored (intervalRestored { s with
    ports := ports, inputs := (restartInputs s).inputs
    store := { s.store with registers := registers, log := verifiedLog s.store.log }
    converterPointer := 7, arbiterPointer := .converter, lineHistory := none
    recognizer := unknownRecognizer, latch := false })

theorem restoreSteps_done (s : State) :
    ∃ (ports : Vector Port 3) (registers : Vector RegisterRec 32),
      restoreSteps s = restoreDone ports registers s
      ∧ ∀ i : RegSlot, registers[i] = verifiedRecord s i := by
  obtain ⟨ports, registers, heq, hreg⟩ := restoreBlocks_eq s
  refine ⟨ports, registers, ?_, hreg⟩
  rw [restoreSteps_eq, intervalRestored_eq, restoreOverdue_eq, heq]
  rfl

theorem suspectNotice_verified (s : State) (i : RegSlot) (f : FoundAt) :
    suspectNotice i (verifiedRecord s i) f = suspectNotice i s.store.registers[i] f := by
  obtain ⟨hquantity, hselector, _⟩ := verifiedRecord_bound s i
  unfold suspectNotice
  rw [hquantity, hselector]

/-- The notices that the ports are told as they come up (R190 step 10, R191). -/
def upNotices (s : State) : List Notice :=
  restoredNotice s.store.coldMarker (if s.store.coldMarker then 0 else s.retainDuration)
    :: suspectNotices .restore s (List.finRange 32)

theorem restoreNotices_done {ports : Vector Port 3} {registers : Vector RegisterRec 32} {s : State}
    (h : ∀ i : RegSlot, registers[i] = verifiedRecord s i) :
    restoreNotices (mismatched s) { restoreDone ports registers s with pfailAsserted := false }
      = upNotices s := by
  show _ :: (mismatched s).map (fun i => suspectNotice i registers[i] .restore) = _ :: _
  refine congrArg _ ?_
  simp only [h, suspectNotice_verified]
  rfl

/-- A restore that brings the ports up. -/
theorem restoreStored_up (s : State) :
    ∃ (ports up : Vector Port 3) (registers : Vector RegisterRec 32),
      restoreStored false s = { restoreDone ports registers s with
        pfailAsserted := false, ports := up, portsUp := true
        store := { (restoreDone ports registers s).store with coldMarker := false } }
      ∧ (∀ i : RegSlot, registers[i] = verifiedRecord s i)
      ∧ ∀ p : PortId, up[p] = portUp (upNotices s) := by
  obtain ⟨ports, registers, heq, hreg⟩ := restoreSteps_done s
  obtain ⟨up, hup, hport⟩ := portsComeUp_eq (mismatched s)
    (s := { restoreDone ports registers s with pfailAsserted := false }) rfl
  refine ⟨ports, up, registers, ?_, hreg, fun p => ?_⟩
  · refine Eq.trans ?_ hup
    show portsComeUp (mismatched s) { restoreSteps s with pfailAsserted := false } = _
    rw [heq]
  · rw [hport, restoreNotices_done hreg]

theorem restoreDone_interval (ports : Vector Port 3) (registers : Vector RegisterRec 32) (s : State) :
    (restoreDone ports registers s).latch = false
    ∧ (restoreDone ports registers s).intervalPartial = true
    ∧ (restoreDone ports registers s).accumulators = Vector.replicate 4 0 :=
  ⟨ite_self _, ite_self _, ite_self _⟩

theorem verifiedRecord_eq (s : State) (i : RegSlot) :
    let r := s.store.registers[i]
    let kept (r : RegisterRec) : RegisterRec :=
      { r with check := registerCheck i (scaleOf s r.quantity) r }
    verifiedRecord s i = if r.state = .free ∨ checkMatches s i r = true then r
      else if r.state = .suspect then kept r
      else kept (markedSuspect r) := by
  intro r kept
  unfold verifiedRecord
  dsimp only
  refine if_congr Iff.rfl rfl ?_
  by_cases h : r.state = .suspect
  · rw [if_pos h, if_pos h]
  · rw [if_neg h, if_neg h]

theorem verifiedLog_eq (l : PeriodLog) : verifiedLog l = if indexCheckOk l then
      logOf (l.entries.map fun e => { e with damaged := e.damaged || !recordCheckOk e.bytes })
    else logOf [] := rfl

/-! ### The cold start -/

theorem coldStart_verified (s : State) (i : RegSlot) :
    verifiedRecord (coldStart s) i = factoryStore.registers[i] := by
  have hfree : (coldStart s).store.registers[i].state = .free :=
    congrArg RegisterRec.state (get_replicate 32 freeRegister i)
  exact if_pos (.inl hfree)

theorem coldStart_suspectNotices (s : State) (f : FoundAt) (is : List RegSlot) :
    suspectNotices f (coldStart s) is = [] := by
  unfold suspectNotices
  rw [List.filter_eq_nil_iff.mpr, List.map_nil]
  intro i _ hnew
  have hfree : (coldStart s).store.registers[i].state = .free :=
    congrArg RegisterRec.state (get_replicate 32 freeRegister i)
  exact ((newlySuspect_iff _ i).mp hnew).1 hfree

theorem restoredNotice_cold : restoredNotice true 0 = ⟨.restored, 1, 0, 0, 0, 0⟩ := by decide

theorem verifiedLog_empty : verifiedLog (logOf []) = logOf [] := ite_self _

theorem restoreDone_coldStart {ports : Vector Port 3} {registers : Vector RegisterRec 32} {s : State}
    (h : ∀ i : RegSlot, registers[i] = verifiedRecord (coldStart s) i) :
    { (restoreDone ports registers (coldStart s)).store with coldMarker := false }
        = { factoryStore with coldMarker := false }
      ∧ (restoreDone ports registers (coldStart s)).engine = .halted := by
  have hregs : registers = factoryStore.registers :=
    Vector.ext fun k hk => (h ⟨k, hk⟩).trans (coldStart_verified s ⟨k, hk⟩)
  have hlog : verifiedLog (coldStart s).store.log = factoryStore.log := verifiedLog_empty
  subst hregs
  unfold restoreDone
  rw [hlog]
  exact ⟨rfl, rfl⟩

/-! ### The rows -/

theorem signature_cases {pfail : Bool} {s : State} :
    (signatureOk s.store = true → restored pfail s = restoreStored pfail s)
    ∧ (signatureOk s.store = false → restored pfail s = if pfail then
        { coldStart s with supply := .retain, pfailAsserted := true }
      else restoreStored false (coldStart s)) :=
  ⟨fun h => if_pos h, fun h => if_neg (ne_true_of_eq_false h)⟩

/-- What a restore that brings the ports up leaves, whatever the store. -/
theorem restoreUp_common {ports up : Vector Port 3} {registers : Vector RegisterRec 32} {s t : State}
    (h : t = { restoreDone ports registers s with
      pfailAsserted := false, ports := up, portsUp := true
      store := { (restoreDone ports registers s).store with coldMarker := false } }) :
    t.supply = .runSupply ∧ t.pfailAsserted = false ∧ t.portsUp = true
    ∧ t.converterPointer = 7 ∧ t.arbiterPointer = .converter ∧ t.lineHistory = none
    ∧ t.recognizer.level = .unknown ∧ t.latch = false
    ∧ t.intervalPartial = true ∧ ∀ c : ChannelId, t.accumulators[c] = 0 := by
  obtain ⟨hlatch, hpartial, hacc⟩ := restoreDone_interval ports registers s
  subst h
  refine ⟨rfl, rfl, rfl, rfl, rfl, rfl, rfl, hlatch, hpartial, fun c => ?_⟩
  show (restoreDone ports registers s).accumulators[c] = 0
  rw [hacc]
  exact get_replicate 4 0 c

theorem restoreDone_input (ports : Vector Port 3) (registers : Vector RegisterRec 32) (s : State)
    (n : InputId) : (restoreDone ports registers s).inputs[n]
      = restarted s.store.pulseDefs[n].enabled s.inputs[n] := get_restartInputs s n

/-- The DEMAND chain as a restore begins its interval (R81, R85). -/
def intervalDemand (s : State) : Chain :=
  if s.store.mode = .run then loaded (heldAtReload s.store.chains.demand)
  else heldAtReload s.store.chains.demand

/-- The DEMAND chain after a restore, held again where a held OVERDUE is taken (R81, R85, R100). -/
def restoredDemand (s : State) : Chain :=
  if OverdueTaken s then held (intervalDemand s) else intervalDemand s

theorem restoredDemand_unassigned {s : State} (h : s.store.chains.demand.state = .unassigned) :
    restoredDemand s = s.store.chains.demand := by
  have hat : heldAtReload s.store.chains.demand = s.store.chains.demand := if_pos h
  have hloaded : loaded s.store.chains.demand = s.store.chains.demand := if_pos h
  have hheld : held s.store.chains.demand = s.store.chains.demand :=
    if_neg (by rw [h]; exact (nomatch ·))
  unfold restoredDemand intervalDemand
  rw [hat, hloaded, ite_self, hheld, ite_self]

theorem restoredDemand_held {s : State} (h : s.store.chains.demand.state ≠ .unassigned)
    (hheld : OverdueTaken s ∨ s.store.mode ≠ .run) : restoredDemand s
      = { s.store.chains.demand with state := .held, count := s.store.chains.demand.reload } := by
  have hat : heldAtReload s.store.chains.demand
      = { s.store.chains.demand with state := .held, count := s.store.chains.demand.reload } :=
    if_neg h
  unfold restoredDemand intervalDemand
  rw [hat]
  by_cases htaken : OverdueTaken s
  · rw [if_pos htaken, if_pos htaken.1]
    rfl
  · rw [if_neg htaken, if_neg (hheld.resolve_left htaken)]

theorem restoredDemand_running {s : State} (h : s.store.chains.demand.state ≠ .unassigned)
    (htaken : ¬ OverdueTaken s) (hrun : s.store.mode = .run) : restoredDemand s
      = { s.store.chains.demand with state := .running, count := s.store.chains.demand.reload } := by
  have hat : heldAtReload s.store.chains.demand
      = { s.store.chains.demand with state := .held, count := s.store.chains.demand.reload } :=
    if_neg h
  unfold restoredDemand intervalDemand
  rw [hat, if_neg htaken, if_pos hrun]
  rfl

theorem restoredDemand_count {s : State} (h : s.store.chains.demand.state ≠ .unassigned) :
    (restoredDemand s).count = s.store.chains.demand.reload := by
  by_cases hheld : OverdueTaken s ∨ s.store.mode ≠ .run
  · rw [restoredDemand_held h hheld]
  · rw [not_or, not_not] at hheld
    rw [restoredDemand_running h hheld.1 hheld.2]

theorem exec_restore_up {again : Bool} {s : State} (hb : s.supply = .retain ∨ s.supply = .restore)
    (h : ¬(again = true ∨ (s.supply = .restore ∧ s.pfailAsserted = true))) :
    exec (.restore again) s = .next (restored false s) := by
  rw [not_or] at h
  obtain ⟨hagain, hpfail⟩ := h
  show execRestore again s = _
  unfold execRestore
  rcases hb with hs | hs
  · rw [hs]
    show Host.Outcome.next (restored again s) = _
    rw [Bool.eq_false_of_not_eq_true hagain]
  · rw [hs]
    show Host.Outcome.next (restored (s.pfailAsserted || again) s) = _
    rw [Bool.eq_false_of_not_eq_true hagain,
      Bool.eq_false_of_not_eq_true fun h => hpfail ⟨hs, h⟩]
    rfl

theorem exec_restore_down {again : Bool} {s : State} (hb : s.supply = .retain ∨ s.supply = .restore)
    (h : again = true ∨ (s.supply = .restore ∧ s.pfailAsserted = true)) :
    exec (.restore again) s = .next (restored true s) := by
  show execRestore again s = _
  unfold execRestore
  rcases hb with hs | hs
  · rw [hs]
    show Host.Outcome.next (restored again s) = _
    have hagain : again = true := h.resolve_right fun h => by rw [hs] at h; exact nomatch h.1
    rw [hagain]
  · rw [hs]
    show Host.Outcome.next (restored (s.pfailAsserted || again) s) = _
    have hpfail : (s.pfailAsserted || again) = true :=
      Bool.or_eq_true .. ▸ (h.symm.imp_left And.right)
    rw [hpfail]

/-- Settles O49, by the level of PFAIL and by whether the signature verifies. -/
theorem restoreBringsThePortsUp : Obligations.RestoreBringsThePortsUp := by
  unfold Obligations.RestoreBringsThePortsUp
  intro begins asserted registersOf
  refine ⟨fun again s hb ha => ?_, fun again s hb ha => ?_, fun again s hs => ?_⟩
  · have hexec := exec_restore_up hb ha
    rcases hok : signatureOk s.store with _ | _
    · obtain ⟨ports, up, registers, heq, hreg, hport⟩ := restoreStored_up (coldStart s)
      have hcold : restored false s = restoreStored false (coldStart s) := signature_cases.2 hok
      rw [hcold] at hexec
      obtain ⟨h1, h2, h3, h4, h5, h6, h7, h8, h9, h10⟩ := restoreUp_common heq
      obtain ⟨hstore, hengine⟩ := restoreDone_coldStart (ports := ports) hreg
      refine ⟨_, hexec, h1, h2, h3, h4, h5, h6, h7, h8, h9, h10, fun _ => ⟨?_, ?_, fun p => ?_⟩,
        (nomatch ·)⟩
      · rw [heq]
        exact hstore
      · rw [heq]
        exact hengine
      · rw [heq]
        refine (hport p).trans ?_
        rw [upNotices, coldStart_suspectNotices]
        show portUp [restoredNotice true 0] = _
        rw [restoredNotice_cold]
        rfl
    · obtain ⟨ports, up, registers, heq, hreg, hport⟩ := restoreStored_up s
      rw [(signature_cases.1 hok : restored false s = _)] at hexec
      obtain ⟨h1, h2, h3, h4, h5, h6, h7, h8, h9, h10⟩ := restoreUp_common heq
      refine ⟨_, hexec, h1, h2, h3, h4, h5, h6, h7, h8, h9, h10, (nomatch ·), fun _ => ?_⟩
      intro taken seconds notices demand
      have hinput := restoreDone_input ports registers s
      rw [heq]
      refine ⟨fun i => ?_, verifiedLog_eq _, rfl, hport, rfl, rfl, rfl, rfl,
        restoredDemand_unassigned, restoredDemand_count, restoredDemand_held, restoredDemand_running,
        fun h => ⟨if_pos h, if_pos h, if_pos h, if_pos h⟩,
        fun h => ⟨if_neg h, if_neg h, if_neg h⟩, rfl, fun n => ⟨?_, ?_, ?_⟩⟩
      · exact (hreg i).trans (verifiedRecord_eq s i)
      · exact (congrArg InputRun.frontEnd (hinput n) :)
      · exact (congrArg InputRun.lastActive (hinput n) :)
      · exact (congrArg InputRun.eligible (hinput n) :)
  · have hexec := exec_restore_down hb ha
    rcases hok : signatureOk s.store with _ | _
    · rw [(signature_cases.2 hok : restored true s = _)] at hexec
      exact ⟨_, hexec, rfl, rfl, (nomatch ·), fun _ => ⟨rfl, rfl, rfl, rfl⟩⟩
    · rw [(signature_cases.1 hok : restored true s = _)] at hexec
      obtain ⟨ports, registers, heq, hreg⟩ := restoreSteps_done s
      obtain ⟨ports', hdrain, _⟩ := enterDrain_frame { restoreSteps s with pfailAsserted := true }
      have hdown : restoreStored true s = enterDrain { restoreSteps s with pfailAsserted := true } := rfl
      rw [hdown, hdrain, drained_eq, freeAllSlots_frame, heq] at hexec
      exact ⟨_, hexec, rfl, rfl,
        fun _ => ⟨rfl, fun i => (hreg i).trans (verifiedRecord_eq s i), rfl⟩, (nomatch ·)⟩
  · show execRestore again s = _
    unfold execRestore
    rcases hs with hs | hs <;> rw [hs]

end Sys2Proof.Machine
end
